-- ==== Sys2Proof/Word.lean ====
section
/-! DEFINITION. The word types of ICHING-CORE: what spec/ treats as a fixed number of bits. -/

namespace Sys2Proof

/-- One byte: a cell of `SYM`, `IMG` or `LUM` (R41, R42, R43). -/
abbrev Byte := BitVec 8

/-- The value of a scalar register (`XLEN` = 16, R13, R22). -/
abbrev Scalar := BitVec 16

/-- A command word or an integer CSR (R90, R30). -/
abbrev Word := BitVec 32

/-- One `NUM` value, an IEEE 754 binary64 datum accessed whole (R13, R36). -/
abbrev F64 := BitVec 64

/-- A field element: an integer in [0, 63], bit i the coefficient of X^i (R130). -/
abbrev GF := BitVec 6

/-- A coefficient sequence, most significant coefficient first (R23, R150). -/
abbrev Poly := List GF

end Sys2Proof
end

