-- ==== Sys2Proof/Machine/Fp.lean ====
section
/-! DEFINITION. `NUM`, IEEE 754 binary64 with round to nearest even (R13, R17, log 1). Every finite value is a
whole number of units of 2^-1074, so each operation is computed exactly on whole numbers and rounded once. -/

namespace Sys2Proof.Machine.Fp

/-- The number 1 in units of 2^-1074. -/
def oneUnits : Nat := 1 <<< 1074

/-- The biased exponent field. -/
def expField (a : F64) : Nat := (a.extractLsb' 52 11).toNat

/-- The fraction field. -/
def fracField (a : F64) : Nat := (a.extractLsb' 0 52).toNat

/-- The sign bit. -/
def isNeg (a : F64) : Bool := a.getLsbD 63

def isNan (a : F64) : Bool := expField a == 2047 && fracField a != 0

def isInf (a : F64) : Bool := expField a == 2047 && fracField a == 0

def isFinite (a : F64) : Bool := expField a != 2047

/-- The magnitude in units of 2^-1074; an infinity is given the magnitude 2^2098 that its fields spell, which is
above every finite one. -/
def mag (a : F64) : Nat :=
  if expField a = 0 then fracField a else (2 ^ 52 + fracField a) <<< (expField a - 1)

/-- The signed value in units of 2^-1074. -/
def units (a : F64) : Int := if isNeg a then -(mag a : Int) else (mag a : Int)

/-- A datum from its sign and its other 63 bits. -/
def withSign (neg : Bool) (bits : Nat) : F64 := BitVec.ofNat 64 (if neg then 2 ^ 63 + bits else bits)

def zero (neg : Bool) : F64 := withSign neg 0

def inf (neg : Bool) : F64 := withSign neg (2047 * 2 ^ 52)

/-- The NaN used inside a computation; where a NaN is stored its bits are a free value (U13, log 2). -/
def nan : F64 := withSign false (2047 * 2 ^ 52 + 2 ^ 51)

/-- The datum nearest to `num / den` units, ties to even, an infinity where it overflows. -/
def round (neg : Bool) (num den : Nat) : F64 :=
  let sh := (num / den).log2 - 52
  let d := den <<< sh
  let q := num / d
  let r := num % d
  let q' := if d < 2 * r || (2 * r == d && q % 2 == 1) then q + 1 else q
  let bits := sh * 2 ^ 52 + q'
  if 2047 * 2 ^ 52 ≤ bits then inf neg else withSign neg bits

def neg (a : F64) : F64 := a ^^^ 0x8000000000000000#64

def abs (a : F64) : F64 := a &&& 0x7FFFFFFFFFFFFFFF#64

/-- Addition; an exact zero sum is +0.0 unless both operands are negative. -/
def add (a b : F64) : F64 :=
  if isNan a || isNan b then nan
  else if isInf a then (if isInf b && isNeg a != isNeg b then nan else a)
  else if isInf b then b
  else
    let z := units a + units b
    if z = 0 then zero (isNeg a && isNeg b) else round (z < 0) z.natAbs 1

def sub (a b : F64) : F64 := add a (neg b)

def mul (a b : F64) : F64 :=
  let sgn := isNeg a != isNeg b
  if isNan a || isNan b then nan
  else if isInf a || isInf b then (if mag a = 0 || mag b = 0 then nan else inf sgn)
  else round sgn (mag a * mag b) oneUnits

def div (a b : F64) : F64 :=
  let sgn := isNeg a != isNeg b
  if isNan a || isNan b then nan
  else if isInf a then (if isInf b then nan else inf sgn)
  else if isInf b then zero sgn
  else if mag b = 0 then (if mag a = 0 then nan else inf sgn)
  else round sgn (mag a * oneUnits) (mag b)

/-- Newton's iteration downward from `x`, at most `fuel` rounds. -/
def isqrtFrom (n : Nat) : Nat → Nat → Nat
  | 0, x => x
  | fuel + 1, x =>
    let y := (x + n / x) / 2
    if y < x then isqrtFrom n fuel y else x

/-- The whole square root of `n`, rounded down. -/
def isqrt (n : Nat) : Nat := if n = 0 then 0 else isqrtFrom n (n.log2 + 2) (1 <<< (n.log2 / 2 + 1))

/-- Square root: the half unit added to an inexact root keeps it off every tie. -/
def sqrt (a : F64) : F64 :=
  if isNan a then nan
  else if mag a = 0 then a
  else if isNeg a then nan
  else if isInf a then a
  else
    let n := mag a * oneUnits
    let r := isqrt n
    round false (2 * r + (if r * r = n then 0 else 1)) 2

/-- Every comparison with a NaN is false (U13). -/
def lt (a b : F64) : Bool := !isNan a && !isNan b && decide (units a < units b)

def le (a b : F64) : Bool := !isNan a && !isNan b && decide (units a ≤ units b)

def eq (a b : F64) : Bool := !isNan a && !isNan b && decide (units a = units b)

/-- `num(n)`: the conversion of a natural number (R305, R341). -/
def ofNat (n : Nat) : F64 := round false (n * oneUnits) 1

/-- `num(z)` of an integer. -/
def ofInt (z : Int) : F64 := round (z < 0) (z.natAbs * oneUnits) 1

/-- The `NUM` value nearest to a decimal written as a fraction. -/
def ofRatio (n d : Nat) : F64 := round false (n * oneUnits) d

/-- `floor` of a finite value, an integer. -/
def floor (a : F64) : Int := units a / (oneUnits : Int)

/-- `ceil` of a finite value, an integer. -/
def ceil (a : F64) : Int := -((-units a) / (oneUnits : Int))

/-- `rne` of a finite value: the nearest integer, ties to the even integer (R283). -/
def rne (a : F64) : Int :=
  let q := units a / (oneUnits : Int)
  let r := units a % (oneUnits : Int)
  if (oneUnits : Int) < 2 * r ∨ (2 * r = (oneUnits : Int) ∧ q % 2 = 1) then q + 1 else q

/-- `round(v) = floor(v + 0.5)` (R14). -/
def roundHalfUp (a : F64) : Int := floor (add a (ofRatio 1 2))

/-- The `NUM` square root of 2 (R301). -/
def sqrtTwo : F64 := sqrt (ofNat 2)

end Sys2Proof.Machine.Fp
end

