-- ==== Sys2Proof/Syntax.lean ====
section
/-! DEFINITION. The commands of ICC-1, one constructor per row of spec/opcode_table.json (R97), the
operands in slot order a, b, c, d. -/

namespace Sys2Proof

/-- The number of a scalar register, `x0` to `x15` (R22). -/
abbrev XReg := Fin 16

/-- The number of a polynomial register, `p0` to `p7` (R23). -/
abbrev PReg := Fin 8

/-- One command (R97). `xd`, `pd` are destinations, `xs`, `ps` are sources; in `rsenc`, `rsmag`, `rsdec`,
`cenc`, `cdec`, `extract` the register `xs0` is read: it holds the destination address. -/
inductive Instr where
  | halt
  | li (xd : XReg) (imm : BitVec 16)
  | lds (xd xs1 : XReg)
  | sts (xs1 xs2 : XReg)
  | gfadd (xd xs1 xs2 : XReg)
  | gfmul (xd xs1 xs2 : XReg)
  | gfinv (xd xs1 : XReg)
  | gfdiv (xd xs1 xs2 : XReg)
  | gfexp (xd xs1 : XReg)
  | gflog (xd xs1 : XReg)
  | pzero (pd : PReg)
  | pone (pd : PReg)
  | pmono (pd : PReg) (xs1 xs2 : XReg)
  | pld (pd : PReg) (xs1 xs2 : XReg)
  | pst (ps : PReg) (xs1 : XReg)
  | pdeg (xd : XReg) (ps1 : PReg)
  | pcoef (xd : XReg) (ps1 : PReg) (xs2 : XReg)
  | pcidx (xd : XReg) (ps1 : PReg) (xs2 : XReg)
  | peq (xd : XReg) (ps1 ps2 : PReg)
  | pisz (xd : XReg) (ps1 : PReg)
  | peval (xd : XReg) (ps1 : PReg) (xs2 : XReg)
  | padd (pd ps1 ps2 : PReg)
  | pmuls (pd ps1 : PReg) (xs2 : XReg)
  | pmul (pd ps1 ps2 : PReg)
  | pdiv (pq ps1 ps2 pr : PReg)
  | rsgen (pd : PReg) (xs1 : XReg)
  | rsenc (xs0 xs1 xs2 xs3 : XReg)
  | rssyn (pd : PReg) (xs1 xs2 xs3 : XReg)
  | rskey (psigma ps1 : PReg) (xs2 : XReg) (pomega : PReg)
  | rsroot (xd : XReg) (ps1 : PReg) (xs2 : XReg)
  | rsmag (xs0 : XReg) (ps1 : PReg) (xs2 xs3 : XReg)
  | rsdec (xs0 xs1 xs2 xs3 : XReg)
  | cenc (xs0 xs1 xs2 : XReg)
  | cdec (xs0 xs1 xs2 : XReg)
  | luma
  | thresh
  | binz
  | binarize
  | locf
  | loca
  | locate
  | xform
  | extract (xs0 : XReg)
  | render (xs1 : XReg)
  deriving DecidableEq, Repr

end Sys2Proof
end

