-- ==== Sys2Proof/Decode.lean ====
section
/-! DEFINITION. Decoding of a command word (R90 to R101), total, an illegal word refused by a named reason;
then the encoder, from the same table (R97). -/

namespace Sys2Proof

/-- Why a word is no command (R98, R99). -/
inductive DecodeError where
  /-- The opcode is not in the table of R97 (R100). -/
  | unassignedOpcode
  /-- A must-be-zero field or an unused slot is not zero (R92, R93, R94). -/
  | reservedNotZero
  /-- A polynomial slot has bit 3 set (R94). -/
  | noSuchPoly
  /-- Fewer than four bytes were given to the byte view (R90, R62). -/
  | tooShort
  deriving DecidableEq, Repr

/-- The opcode, bits 7:0 (R91). -/
def opcOf (w : Word) : BitVec 8 := w.extractLsb' 0 8
/-- Slot `a`, bits 11:8 (R91). -/
def slotA (w : Word) : BitVec 4 := w.extractLsb' 8 4
/-- Slot `b`, bits 15:12 (R91). -/
def slotB (w : Word) : BitVec 4 := w.extractLsb' 12 4
/-- Slot `c`, bits 19:16 (R91). -/
def slotC (w : Word) : BitVec 4 := w.extractLsb' 16 4
/-- Slot `d`, bits 23:20 (R91). -/
def slotD (w : Word) : BitVec 4 := w.extractLsb' 20 4
/-- The field `z`, bits 31:24 (R91). -/
def zeroField (w : Word) : BitVec 8 := w.extractLsb' 24 8
/-- The immediate of format I, bits 31:16, unsigned and not extended (R93, R95). -/
def immField (w : Word) : BitVec 16 := w.extractLsb' 16 16

/-- The scalar register a slot names (R94). -/
def xregOf (b : BitVec 4) : XReg := b.toFin

/-- The polynomial register a slot names, once its bit 3 is known to be zero (R94). -/
def pregOf (b : BitVec 4) : PReg := (b.extractLsb' 0 3).toFin

/-- What a slot of a format R row holds (R97): a scalar register, a polynomial register, or nothing. -/
inductive SlotKind where
  | x
  | p
  | unused
  deriving DecidableEq, Repr

/-- An unused slot must be zero (R94). -/
def unusedOk (k : SlotKind) (b : BitVec 4) : Bool :=
  match k with
  | .unused => b = 0#4
  | .x | .p => true

/-- Bit 3 of a polynomial slot must be zero (R94). -/
def polyOk (k : SlotKind) (b : BitVec 4) : Bool :=
  match k with
  | .p => !b.getLsbD 3
  | .x | .unused => true

/-- Format Z (R92): every bit above the opcode is zero. -/
def formatZ (w : Word) (i : Instr) : Except DecodeError Instr :=
  if w.extractLsb' 8 24 = 0#24 then .ok i else .error .reservedNotZero

/-- Format I (R93): slot `b` is zero. -/
def formatI (w : Word) (i : Instr) : Except DecodeError Instr :=
  if slotB w = 0#4 then .ok i else .error .reservedNotZero

/-- Format R (R94) of a row whose slots are of the kinds `ka kb kc kd`. -/
def formatR (ka kb kc kd : SlotKind) (w : Word) (i : Instr) : Except DecodeError Instr :=
  if zeroField w = 0#8 && unusedOk ka (slotA w) && unusedOk kb (slotB w) && unusedOk kc (slotC w) && unusedOk kd (slotD w) then
    if polyOk ka (slotA w) && polyOk kb (slotB w) && polyOk kc (slotC w) && polyOk kd (slotD w) then .ok i
    else .error .noSuchPoly
  else .error .reservedNotZero

/-- The decoding procedure of R98, one line per row of R97. -/
def decode (w : Word) : Except DecodeError Instr :=
  let xa := xregOf (slotA w)
  let xb := xregOf (slotB w)
  let xc := xregOf (slotC w)
  let xd := xregOf (slotD w)
  let pa := pregOf (slotA w)
  let pb := pregOf (slotB w)
  let pc := pregOf (slotC w)
  let pd := pregOf (slotD w)
  match (opcOf w).toNat with
  | 0x00 => formatZ w .halt
  | 0x01 => formatI w (.li xa (immField w))
  | 0x02 => formatR .x .x .unused .unused w (.lds xa xb)
  | 0x03 => formatR .unused .x .x .unused w (.sts xb xc)
  | 0x10 => formatR .x .x .x .unused w (.gfadd xa xb xc)
  | 0x11 => formatR .x .x .x .unused w (.gfmul xa xb xc)
  | 0x12 => formatR .x .x .unused .unused w (.gfinv xa xb)
  | 0x13 => formatR .x .x .x .unused w (.gfdiv xa xb xc)
  | 0x14 => formatR .x .x .unused .unused w (.gfexp xa xb)
  | 0x15 => formatR .x .x .unused .unused w (.gflog xa xb)
  | 0x20 => formatR .p .unused .unused .unused w (.pzero pa)
  | 0x21 => formatR .p .unused .unused .unused w (.pone pa)
  | 0x22 => formatR .p .x .x .unused w (.pmono pa xb xc)
  | 0x23 => formatR .p .x .x .unused w (.pld pa xb xc)
  | 0x24 => formatR .p .x .unused .unused w (.pst pa xb)
  | 0x25 => formatR .x .p .unused .unused w (.pdeg xa pb)
  | 0x26 => formatR .x .p .x .unused w (.pcoef xa pb xc)
  | 0x27 => formatR .x .p .x .unused w (.pcidx xa pb xc)
  | 0x28 => formatR .x .p .p .unused w (.peq xa pb pc)
  | 0x29 => formatR .x .p .unused .unused w (.pisz xa pb)
  | 0x2A => formatR .x .p .x .unused w (.peval xa pb xc)
  | 0x2B => formatR .p .p .p .unused w (.padd pa pb pc)
  | 0x2C => formatR .p .p .x .unused w (.pmuls pa pb xc)
  | 0x2D => formatR .p .p .p .unused w (.pmul pa pb pc)
  | 0x2E => formatR .p .p .p .p w (.pdiv pa pb pc pd)
  | 0x30 => formatR .p .x .unused .unused w (.rsgen pa xb)
  | 0x31 => formatR .x .x .x .x w (.rsenc xa xb xc xd)
  | 0x32 => formatR .p .x .x .x w (.rssyn pa xb xc xd)
  | 0x33 => formatR .p .p .x .p w (.rskey pa pb xc pd)
  | 0x34 => formatR .x .p .x .unused w (.rsroot xa pb xc)
  | 0x35 => formatR .x .p .x .x w (.rsmag xa pb xc xd)
  | 0x36 => formatR .x .x .x .x w (.rsdec xa xb xc xd)
  | 0x38 => formatR .x .x .x .unused w (.cenc xa xb xc)
  | 0x39 => formatR .x .x .x .unused w (.cdec xa xb xc)
  | 0x40 => formatZ w .luma
  | 0x41 => formatZ w .thresh
  | 0x42 => formatZ w .binz
  | 0x43 => formatZ w .binarize
  | 0x48 => formatZ w .locf
  | 0x49 => formatZ w .loca
  | 0x4A => formatZ w .locate
  | 0x50 => formatZ w .xform
  | 0x51 => formatR .x .unused .unused .unused w (.extract xa)
  | 0x58 => formatR .unused .x .unused .unused w (.render xb)
  | _ => .error .unassignedOpcode

/-- Four bytes as a host bus shows them, the opcode byte first, make one word (R62). -/
def wordOfBytes (b0 b1 b2 b3 : Byte) : Word := b3 ++ b2 ++ b1 ++ b0

/-- The byte view of `CMD` (R62): one command and the bytes after it. -/
def decodeBytes : List Byte → Except DecodeError (Instr × List Byte)
  | b0 :: b1 :: b2 :: b3 :: rest =>
    match decode (wordOfBytes b0 b1 b2 b3) with
    | .ok i => .ok (i, rest)
    | .error e => .error e
  | _ => .error .tooShort

/-- The command read from a table word of `nbits` bits (the bits above are zero); none where it is illegal. -/
def decodeTableWord (nbits w : Nat) : Option Instr :=
  match decode (BitVec.ofNat 32 (w % 2 ^ nbits)) with
  | .ok i => some i
  | .error _ => none

/-! The encoder, from the same table (R91 to R97). -/

/-- A format R or Z word from its fields (R91). -/
def packR (opc : BitVec 8) (a b c d : BitVec 4) : Word := 0#8 ++ d ++ c ++ b ++ a ++ opc

/-- A format I word from its fields (R93). -/
def packI (opc : BitVec 8) (a : BitVec 4) (imm : BitVec 16) : Word := imm ++ 0#4 ++ a ++ opc

/-- The slot that names a scalar register (R94). -/
def xslot (r : XReg) : BitVec 4 := BitVec.ofFin r

/-- The slot that names a polynomial register, bit 3 zero (R94). -/
def pslot (r : PReg) : BitVec 4 := 0#1 ++ (BitVec.ofFin r : BitVec 3)

/-- The word of a command (R97). -/
def encode : Instr → Word
  | .halt => packR 0x00#8 0 0 0 0
  | .li xd imm => packI 0x01#8 (xslot xd) imm
  | .lds xd xs1 => packR 0x02#8 (xslot xd) (xslot xs1) 0 0
  | .sts xs1 xs2 => packR 0x03#8 0 (xslot xs1) (xslot xs2) 0
  | .gfadd xd xs1 xs2 => packR 0x10#8 (xslot xd) (xslot xs1) (xslot xs2) 0
  | .gfmul xd xs1 xs2 => packR 0x11#8 (xslot xd) (xslot xs1) (xslot xs2) 0
  | .gfinv xd xs1 => packR 0x12#8 (xslot xd) (xslot xs1) 0 0
  | .gfdiv xd xs1 xs2 => packR 0x13#8 (xslot xd) (xslot xs1) (xslot xs2) 0
  | .gfexp xd xs1 => packR 0x14#8 (xslot xd) (xslot xs1) 0 0
  | .gflog xd xs1 => packR 0x15#8 (xslot xd) (xslot xs1) 0 0
  | .pzero pd => packR 0x20#8 (pslot pd) 0 0 0
  | .pone pd => packR 0x21#8 (pslot pd) 0 0 0
  | .pmono pd xs1 xs2 => packR 0x22#8 (pslot pd) (xslot xs1) (xslot xs2) 0
  | .pld pd xs1 xs2 => packR 0x23#8 (pslot pd) (xslot xs1) (xslot xs2) 0
  | .pst ps xs1 => packR 0x24#8 (pslot ps) (xslot xs1) 0 0
  | .pdeg xd ps1 => packR 0x25#8 (xslot xd) (pslot ps1) 0 0
  | .pcoef xd ps1 xs2 => packR 0x26#8 (xslot xd) (pslot ps1) (xslot xs2) 0
  | .pcidx xd ps1 xs2 => packR 0x27#8 (xslot xd) (pslot ps1) (xslot xs2) 0
  | .peq xd ps1 ps2 => packR 0x28#8 (xslot xd) (pslot ps1) (pslot ps2) 0
  | .pisz xd ps1 => packR 0x29#8 (xslot xd) (pslot ps1) 0 0
  | .peval xd ps1 xs2 => packR 0x2A#8 (xslot xd) (pslot ps1) (xslot xs2) 0
  | .padd pd ps1 ps2 => packR 0x2B#8 (pslot pd) (pslot ps1) (pslot ps2) 0
  | .pmuls pd ps1 xs2 => packR 0x2C#8 (pslot pd) (pslot ps1) (xslot xs2) 0
  | .pmul pd ps1 ps2 => packR 0x2D#8 (pslot pd) (pslot ps1) (pslot ps2) 0
  | .pdiv pq ps1 ps2 pr => packR 0x2E#8 (pslot pq) (pslot ps1) (pslot ps2) (pslot pr)
  | .rsgen pd xs1 => packR 0x30#8 (pslot pd) (xslot xs1) 0 0
  | .rsenc xs0 xs1 xs2 xs3 => packR 0x31#8 (xslot xs0) (xslot xs1) (xslot xs2) (xslot xs3)
  | .rssyn pd xs1 xs2 xs3 => packR 0x32#8 (pslot pd) (xslot xs1) (xslot xs2) (xslot xs3)
  | .rskey psigma ps1 xs2 pomega => packR 0x33#8 (pslot psigma) (pslot ps1) (xslot xs2) (pslot pomega)
  | .rsroot xd ps1 xs2 => packR 0x34#8 (xslot xd) (pslot ps1) (xslot xs2) 0
  | .rsmag xs0 ps1 xs2 xs3 => packR 0x35#8 (xslot xs0) (pslot ps1) (xslot xs2) (xslot xs3)
  | .rsdec xs0 xs1 xs2 xs3 => packR 0x36#8 (xslot xs0) (xslot xs1) (xslot xs2) (xslot xs3)
  | .cenc xs0 xs1 xs2 => packR 0x38#8 (xslot xs0) (xslot xs1) (xslot xs2) 0
  | .cdec xs0 xs1 xs2 => packR 0x39#8 (xslot xs0) (xslot xs1) (xslot xs2) 0
  | .luma => packR 0x40#8 0 0 0 0
  | .thresh => packR 0x41#8 0 0 0 0
  | .binz => packR 0x42#8 0 0 0 0
  | .binarize => packR 0x43#8 0 0 0 0
  | .locf => packR 0x48#8 0 0 0 0
  | .loca => packR 0x49#8 0 0 0 0
  | .locate => packR 0x4A#8 0 0 0 0
  | .xform => packR 0x50#8 0 0 0 0
  | .extract xs0 => packR 0x51#8 (xslot xs0) 0 0 0
  | .render xs1 => packR 0x58#8 0 (xslot xs1) 0 0

end Sys2Proof
end

