-- ==== Sys2Proof/Config.lean ====
section
/-! DEFINITION. What an implementation of ICHING-CORE fixes (R13), the parameters spec/ leaves open
(constants without a value), and the free values (constants without a value, applied to plain data). -/

namespace Sys2Proof.Config

/-- `CMD_SIZE`: words of the command memory (R13, R40). -/
def cmdSize : Nat := 1024

/-- `SYM_SIZE`: bytes of the symbol memory (R13, R41). -/
def symSize : Nat := 4096

/-- `PMAX`: greatest number of coefficients of a polynomial register (R13, R25). -/
def pmax : Nat := 128

/-- `KMAX`: greatest parity count the RS commands accept (R13). -/
def kmax : Nat := 63

/-- `MAX_SIZE` of the code format (R8, R230). -/
def maxSize : Nat := 64

/-- The constant CSR `ID` (R31). -/
def idWord : Word := 0x00014306#32

/-- How far the OPEN parameter `WMAX` lies above its least legal value (U7, log 3). -/
opaque wmaxExtra : Fin 31518

/-- How far the OPEN parameter `HMAX` lies above its least legal value (U7, log 3). -/
opaque hmaxExtra : Fin 31518

/-- `WMAX`, OPEN, 1250 to 32767 (R13, U7; from above by R35, log 3). -/
def wmax : Nat := wmaxExtra.val + 1250

/-- `HMAX`, OPEN, 1250 to 32767 (R13, U7; from above by R35, log 3). -/
def hmax : Nat := hmaxExtra.val + 1250

/-- `RMAX`: side capacity of `RCT` (R345, R46), below 2^16 as R35 asks of every value the engine writes. -/
def rmax : Nat := 2 * max wmax hmax

/-- `UNIT_DIM_THRESHOLD`, OPEN, a `NUM` value (R364, U8, log 4). -/
opaque unitDimThreshold : F64

/-- `GAP_DIM_THRESHOLD`, OPEN, a `NUM` value (R365, U8, log 4). -/
opaque gapDimThreshold : F64

/-- Free value: what cell `i` of `CMD` holds after reset number `r` until it is written (R48, U1, log 5). -/
opaque cmdFill (r i : Nat) : Word

/-- Free value: what cell `i` of `SYM` holds after reset number `r` until it is written (R48, U1, log 5). -/
opaque symFill (r i : Nat) : Byte

/-- Free value: what cell `i` of `IMG` holds after reset number `r` until it is written (R48, U1, log 5). -/
opaque imgFill (r i : Nat) : Byte

/-- Free value: what cell `i` of `LUM` holds after reset number `r` until it is written (R48, U1, log 5). -/
opaque lumFill (r i : Nat) : Byte

/-- Free value: what cell `i` of `THR` holds after reset number `r` until it is written (R48, U1, log 5). -/
opaque thrFill (r i : Nat) : F64

/-- Free value: what cell `i` of `BIT` holds after reset number `r` until it is written (R48, U1, log 5). -/
opaque bitFill (r i : Nat) : Bool

/-- Free value: what cell `i` of `RCT` holds after reset number `r` until it is written (R48, U1, log 5). -/
opaque rctFill (r i : Nat) : Bool

/-- Free value: the word from which the `n`-th stored NaN is drawn (U13, log 2). -/
opaque nanWord (n : Nat) : F64

/-- Free value: `EXP[i]` for an index `i` of 64 or more, which the table does not have; only a `CDEC` of
more than 64 parity symbols reads it (R136, R202, log 13). -/
opaque expBeyond (i : Nat) : GF

end Sys2Proof.Config
end

