-- ==== Sys2Proof/Machine/State.lean ====
section
/-! DEFINITION. The state of ICHING-CORE (R21), the host's moves (R75), what can stop the model, and the state
after reset (R48). -/

namespace Sys2Proof.Machine

/-- A memory: the cells written since the last reset, addresses strictly rising. A cell without an entry has not
been written: it holds the free value of its space in Config (R48, U1, log 5). -/
abbrev Mem (α : Type) := List (Nat × α)

/-- A point of the patterns location record, two `NUM` values (R36). -/
structure Point where
  x : F64
  y : F64
  deriving DecidableEq, Repr

/-- The patterns location record, the CSRs `PL_*` (R36): the four corner points and the two sizes. -/
structure Patterns where
  tl : Point
  tr : Point
  bl : Point
  br : Point
  fsize : F64
  asize : F64
  deriving DecidableEq, Repr

/-- The memories (R68). -/
inductive Space where
  | cmd
  | sym
  | img
  | lum
  | thr
  | bit
  | rct
  deriving DecidableEq, Repr

/-- What the host may do that changes the state or passes time (R75). Reads change nothing and are functions of
the state (`State.hostReadCsr` and its fellows in Machine/HostPort.lean). -/
inductive HostMove where
  /-- Reads `STATUS`, allowed at any time. -/
  | poll
  /-- Writes the CSR of a number; a 32-bit CSR takes the low 32 bits. -/
  | writeCsr (n : Nat) (v : BitVec 64)
  | writeCmd (i : Nat) (v : Word)
  | writeSym (i : Nat) (v : Byte)
  | writeImg (i : Nat) (v : Byte)
  | writeLum (i : Nat) (v : Byte)
  | writeThr (i : Nat) (v : F64)
  | writeBit (i : Nat) (v : Bool)
  | writeRct (i : Nat) (v : Bool)
  /-- Applies reset, allowed at any time (R421, R422). -/
  | reset
  deriving DecidableEq, Repr

/-- The fault codes of R381, in the order of their numbers. -/
inductive ErrCode where
  | illegal
  | range
  | addr
  | gfZero
  | polyDivZero
  | rsFail
  | emptyPayload
  | badChar
  | ecLevel
  | tooBig
  | resSmall
  | invalidCode
  | noFinders
  | noValidFinders
  | notSquare
  | imgSmall
  | overflow
  deriving DecidableEq, Repr

/-- The state (R21). The last three fields are the model's own: no rule names them, and no statement rests on
their values at reset. -/
structure State where
  /-- `x0 .. x15` (R22). -/
  x : Vector Scalar 16
  /-- `p0 .. p7` (R23). -/
  p : Vector Poly 8
  /-- `CP` (R27). -/
  cp : Word
  /-- `CTRL`: only bit 8 (`INV`) is kept (R32). -/
  ctrl : Word
  /-- `STATUS` (R33). -/
  status : Word
  /-- `ERR` (R34). -/
  err : Word
  /-- `EPC` (R34). -/
  epc : Word
  /-- `EINFO` (R34). -/
  einfo : Word
  /-- `IMG_W` (R35). -/
  imgW : Word
  /-- `IMG_H` (R35). -/
  imgH : Word
  /-- `RES` (R35). -/
  res : Word
  /-- `CODE_SIZE` (R35). -/
  codeSize : Word
  /-- `CODE_VER` (R35). -/
  codeVer : Word
  /-- `PAR` (R35). -/
  par : Word
  /-- `PLEN` (R35). -/
  plen : Word
  /-- `NCORR` (R35). -/
  ncorr : Word
  /-- `RECT_N` (R35). -/
  rectN : Word
  /-- `ECLVL` (R36). -/
  eclvl : F64
  /-- `PL_TLX .. PL_ASIZE` (R36). -/
  pl : Patterns
  /-- `M0 .. M8`, row-major (R36, R346). -/
  m : Vector F64 9
  /-- The generator cache `GEN[0 .. GCNT)` (R39); `GCNT` is its length. -/
  gen : List Poly
  /-- `CMD` (R40). -/
  cmd : Mem Word
  /-- `SYM` (R41). -/
  sym : Mem Byte
  /-- `IMG` (R42). -/
  img : Mem Byte
  /-- `LUM` (R43). -/
  lum : Mem Byte
  /-- `THR` (R44). -/
  thr : Mem F64
  /-- `BIT`, true is black (R45). -/
  bit : Mem Bool
  /-- `RCT`, true is black (R46). -/
  rct : Mem Bool
  /-- MODEL'S OWN: which reset the free contents of the memories belong to (log 6). -/
  resets : Nat
  /-- MODEL'S OWN: how many free NaN words have been drawn (U13, log 2). -/
  nans : Nat
  /-- MODEL'S OWN: the host's moves still to come, the next one first (R20, R75, log 7). -/
  hostq : List HostMove
  deriving DecidableEq, Repr

/-- What stops the model with a fault. No command does: a fault of spec/ (R390) is a next state. -/
inductive Fault where
  /-- The host named a cell its memory does not have (R68). Raised by the host's move alone, in
  Machine/HostPort.lean. Safe: spec/ gives such an access no effect (log 8). -/
  | noSuchCell (sp : Space) (i : Nat)
  deriving DecidableEq, Repr

/-- What the model gives no meaning. -/
inductive Refusal where
  /-- An arm of exec that has no meaning yet. No arm answers it: every command has its meaning. Safe. -/
  | notModelled (mnemonic : String)
  /-- The host acted on the state while the engine was busy (R75, U12). Raised by `State.hostAct` alone, which
  `step` calls on an idle engine only. Safe in itself; that hosts keep to R75 is an assumption (log 9). -/
  | hostBusy
  deriving DecidableEq, Repr

/-- The point (+0.0, +0.0). -/
def Point.zero : Point := { x := 0#64, y := 0#64 }

/-- The state after reset (R48, R421). -/
def State.reset : State where
  x := Vector.replicate 16 0#16
  p := Vector.replicate 8 [0#6]
  cp := 0#32
  ctrl := 0#32
  status := 0#32
  err := 0#32
  epc := 0#32
  einfo := 0#32
  imgW := 0#32
  imgH := 0#32
  res := 1250#32
  codeSize := 0#32
  codeVer := 0#32
  par := 0#32
  plen := 0#32
  ncorr := 0#32
  rectN := 0#32
  eclvl := 0#64
  pl := { tl := .zero, tr := .zero, bl := .zero, br := .zero, fsize := 0#64, asize := 0#64 }
  m := Vector.replicate 9 0#64
  gen := [[1#6]]
  cmd := []
  sym := []
  img := []
  lum := []
  thr := []
  bit := []
  rct := []
  resets := 0
  nans := 0
  hostq := []

end Sys2Proof.Machine
end

