-- ==== Sys2Proof/Machine/Flags.lean ====
section
/-! DEFINITION. The block has no condition codes (R29): its only status bits are those of `STATUS` (R33), and its
only mode bit is `CTRL.INV` (R32). The numbers of the fault codes (R381) stand here too. -/

namespace Sys2Proof.Machine

/-- `STATUS.BUSY`, bit 0 (R33). -/
def busyBit (w : Word) : Bool := w.getLsbD 0
/-- `STATUS.DONE`, bit 1 (R33). -/
def doneBit (w : Word) : Bool := w.getLsbD 1
/-- `STATUS.FAULT`, bit 2 (R33). -/
def faultBit (w : Word) : Bool := w.getLsbD 2
/-- `CTRL.INV`, bit 8 (R32). -/
def invBit (w : Word) : Bool := w.getLsbD 8

/-- `DONE <- 1; BUSY <- 0` (R122). -/
def statusDone (w : Word) : Word := (w ||| 2#32) &&& ~~~1#32
/-- `FAULT <- 1; BUSY <- 0` (R390). -/
def statusFault (w : Word) : Word := (w ||| 4#32) &&& ~~~1#32
/-- `DONE <- 0; FAULT <- 0` (R32). -/
def statusClear (w : Word) : Word := w &&& ~~~6#32
/-- `BUSY <- 1`, and the other two cleared (R424). -/
def statusStart (w : Word) : Word := statusClear w ||| 1#32

/-- The number `ERR` holds for a code (R381). -/
def errNumber : ErrCode → Nat
  | .illegal => 1
  | .range => 2
  | .addr => 3
  | .gfZero => 4
  | .polyDivZero => 5
  | .rsFail => 6
  | .emptyPayload => 9
  | .badChar => 10
  | .ecLevel => 11
  | .tooBig => 12
  | .resSmall => 13
  | .invalidCode => 14
  | .noFinders => 15
  | .noValidFinders => 16
  | .notSquare => 17
  | .imgSmall => 18
  | .overflow => 19

end Sys2Proof.Machine
end

