-- ==== Sys2Proof/Machine/Field.lean ====
section
/-! DEFINITION. The field GF(2^6) with primitive polynomial 0x43 and generator 2 (R130 to R139), and its two
constant tables (R37, R38). -/

namespace Sys2Proof.Machine

/-- `EXP[0 .. 63]` (R37). -/
def expTable : List GF :=
  [1, 2, 4, 8, 16, 32, 3, 6, 12, 24, 48, 35, 5, 10, 20, 40,
   19, 38, 15, 30, 60, 59, 53, 41, 17, 34, 7, 14, 28, 56, 51, 37,
   9, 18, 36, 11, 22, 44, 27, 54, 47, 29, 58, 55, 45, 25, 50, 39,
   13, 26, 52, 43, 21, 42, 23, 46, 31, 62, 63, 61, 57, 49, 33, 1]

/-- `LOG[1 .. 63]`; the table has no entry for 0 (R38, U3). -/
def logTable : List Nat :=
  [0, 1, 6, 2, 12, 7, 26, 3, 32, 13, 35, 8, 48, 27, 18,
   4, 24, 33, 16, 14, 52, 36, 54, 9, 45, 49, 38, 28, 41, 19, 56,
   5, 62, 25, 11, 34, 31, 17, 47, 15, 23, 53, 51, 37, 44, 55, 40,
   10, 61, 46, 30, 50, 22, 39, 43, 29, 60, 42, 21, 20, 59, 57, 58]

/-- `EXP[k]` for `k` in [0, 63] (R37, R136); every caller keeps `k` in that range. -/
def gexp (k : Nat) : GF := expTable.getD k 0

/-- `LOG[v]` for `v` in [1, 63], none for 0 (R38, R137). -/
def glog (v : GF) : Option Nat := if v = 0 then none else logTable[v.toNat - 1]?

/-- Multiplication through the tables (R133). -/
def gmul (u v : GF) : GF :=
  match glog u, glog v with
  | some a, some b => gexp ((a + b) % 63)
  | _, _ => 0

/-- The inverse of a non-zero element (R134); every caller tests for zero first (log 15). -/
def ginv (v : GF) : GF :=
  match glog v with
  | some a => gexp (63 - a)
  | none => 0

/-- Division by a non-zero element: the inverse is formed first (R135). -/
def gdiv (u v : GF) : GF := gmul u (ginv v)

end Sys2Proof.Machine
end

