-- ==== Sys2Proof/Machine/Poly.lean ====
section
/-! DEFINITION. Field polynomials as normalised coefficient sequences (R24, R150 to R159). -/

namespace Sys2Proof.Machine

/-- Strips leading zeros, keeping one coefficient (R24). -/
def norm : Poly → Poly
  | [] => [0]
  | [c] => [c]
  | c :: d :: cs => if c = 0 then norm (d :: cs) else c :: d :: cs

/-- `deg(P) = len(P) - 1` (R151). -/
def deg (q : Poly) : Nat := q.length - 1

/-- The coefficient of `X^d`, 0 above the degree (R152). -/
def coef (q : Poly) (d : Nat) : GF := q.reverse.getD d 0

/-- `isZero` (R153). -/
def polyIsZero (q : Poly) : Bool := q == [0]

/-- Horner's evaluation, from the highest coefficient down (R154). -/
def ev (q : Poly) (v : GF) : GF := q.foldl (fun r c => gmul r v ^^^ c) 0

/-- `n` zeros. -/
def zeros (n : Nat) : Poly := List.replicate n 0

/-- A sequence padded on the left with zeros to length `n` (R155). -/
def padTo (n : Nat) (q : Poly) : Poly := zeros (n - q.length) ++ q

/-- Addition (R155). -/
def padd (a b : Poly) : Poly :=
  let n := max a.length b.length
  norm (List.zipWith (fun u v => u ^^^ v) (padTo n a) (padTo n b))

/-- Scalar multiple (R156). -/
def pmuls (q : Poly) (v : GF) : Poly := norm (q.map fun c => gmul c v)

/-- Entry `k` of the convolution of two sequences: the sum of `a[i]*b[k-i]` (R157). -/
def convAt (a b : Poly) (k : Nat) : GF :=
  (List.range (k + 1)).foldl (fun r i => r ^^^ gmul (a.getD i 0) (b.getD (k - i) 0)) 0

/-- Product (R157). -/
def pmul (a b : Poly) : Poly :=
  if polyIsZero a || polyIsZero b then [0]
  else norm ((List.range (a.length + b.length - 1)).map (convAt a b))

/-- Adds the first sequence onto the head of the second, cell by cell. -/
def xorOnto : Poly → Poly → Poly
  | [], w => w
  | _, [] => []
  | q :: qs, w :: ws => (w ^^^ q) :: xorOnto qs ws

/-- Synthetic division on the working buffer `w`: `n` quotient cells are still to come, `li` is the inverse of
the divisor's leading coefficient, `bt` its other coefficients. Answers the quotient cells and what is left (R158). -/
def synthDiv (li : GF) (bt : Poly) : Nat → Poly → Poly × Poly
  | 0, w => ([], w)
  | _ + 1, [] => ([], [])
  | n + 1, c :: w =>
    let q := gmul c li
    let w' := if q = 0 then w else xorOnto (bt.map fun t => gmul t q) w
    let (qs, r) := synthDiv li bt n w'
    (q :: qs, r)

/-- Quotient and remainder by a non-zero divisor (R158); an empty rest normalises to `[0]`. -/
def pdivmod (a b : Poly) : Poly × Poly :=
  if a.length < b.length then ([0], a)
  else
    let (q, r) := synthDiv (ginv (b.headD 0)) b.tail (a.length - b.length + 1) a
    (norm q, norm r)

/-- `mono(d, c)`, that is `c * X^d` (R159). -/
def mono (d : Nat) (c : GF) : Poly := if c = 0 then [0] else c :: zeros d

end Sys2Proof.Machine
end

