-- ==== Sys2Proof/Machine/Ops.lean ====
section
/-! DEFINITION. The named operations over memories and registers, the end of a command, and taking a fault
(R390), the block's one exception. -/

namespace Sys2Proof.Machine

/-! Memories: lists of written cells (log 5). -/

/-- The written cell at an address. -/
def memGet {α : Type} : Mem α → Nat → Option α
  | [], _ => none
  | (b, v) :: t, a => if b = a then some v else memGet t a

/-- A read: what was last written, else the free value of the cell. -/
def memRead {α : Type} (fill : Nat → α) (mm : Mem α) (a : Nat) : α := (memGet mm a).getD (fill a)

/-- `n` cells from `a` on, in ascending order (R61). -/
def memRange {α : Type} (fill : Nat → α) (mm : Mem α) (a n : Nat) : List α :=
  (List.range n).map fun i => memRead fill mm (a + i)

/-- The cells `a, a+1, ..` holding the given values. -/
def memTag {α : Type} (a : Nat) : List α → Mem α
  | [] => []
  | v :: vs => (a, v) :: memTag (a + 1) vs

/-- Writes the given values from `a` on. -/
def memWrite {α : Type} (mm : Mem α) (a : Nat) (vs : List α) : Mem α :=
  mm.filter (fun c => decide (c.1 < a)) ++ memTag a vs ++ mm.filter (fun c => decide (a + vs.length ≤ c.1))

/-- The first `n` cells as an array, for the commands that read whole matrices. -/
def memCells {α : Type} (fill : Nat → α) (mm : Mem α) (n : Nat) : Array α :=
  mm.foldr (fun c arr => arr.setIfInBounds c.1 c.2) ((List.range n).map fill).toArray

/-- The canonical form: addresses strictly rising, all below the memory's size. -/
abbrev memWf {α : Type} (size : Nat) (mm : Mem α) : Prop :=
  mm.Pairwise (fun c d => c.1 < d.1) ∧ ∀ c ∈ mm, c.1 < size

/-- The model's result of a command or a step. -/
abbrev Result := Host.Outcome State Fault Refusal

/-! Registers (R22, R23). -/

/-- `x[r]`. -/
def State.getX (s : State) (r : XReg) : Scalar := s.x[r.val]

/-- `x[r] <- v`. -/
def State.setX (s : State) (r : XReg) (v : Scalar) : State := { s with x := s.x.set r.val v }

/-- `p[r]`. -/
def State.getP (s : State) (r : PReg) : Poly := s.p[r.val]

/-- `p[r] <- q`: the normalised form is stored (R24). -/
def State.setP (s : State) (r : PReg) (q : Poly) : State := { s with p := s.p.set r.val (norm q) }

/-- `GCNT` (R39). -/
def State.gcnt (s : State) : Nat := s.gen.length

/-! Reads of one cell, and writes, of each memory (R40 to R46). -/

def State.cmdWord (s : State) (i : Nat) : Word := memRead (Config.cmdFill s.resets) s.cmd i
def State.symByte (s : State) (a : Nat) : Byte := memRead (Config.symFill s.resets) s.sym a
def State.imgByte (s : State) (i : Nat) : Byte := memRead (Config.imgFill s.resets) s.img i
def State.lumByte (s : State) (i : Nat) : Byte := memRead (Config.lumFill s.resets) s.lum i
def State.thrCell (s : State) (i : Nat) : F64 := memRead (Config.thrFill s.resets) s.thr i
def State.bitCell (s : State) (i : Nat) : Bool := memRead (Config.bitFill s.resets) s.bit i
def State.rctCell (s : State) (i : Nat) : Bool := memRead (Config.rctFill s.resets) s.rct i

/-- `MemRead(SYM, a, n)` once the range is known to fit (R16). -/
def State.symBytes (s : State) (a n : Nat) : List Byte := memRange (Config.symFill s.resets) s.sym a n

/-- `MemWrite(SYM, a, n, vs)` once the range is known to fit (R16). -/
def State.storeSym (s : State) (a : Nat) (vs : List Byte) : State := { s with sym := memWrite s.sym a vs }

def State.storeCmd (s : State) (i : Nat) (vs : List Word) : State := { s with cmd := memWrite s.cmd i vs }
def State.storeImg (s : State) (i : Nat) (vs : List Byte) : State := { s with img := memWrite s.img i vs }
def State.storeLum (s : State) (i : Nat) (vs : List Byte) : State := { s with lum := memWrite s.lum i vs }
def State.storeThr (s : State) (i : Nat) (vs : List F64) : State := { s with thr := memWrite s.thr i vs }
def State.storeBit (s : State) (i : Nat) (vs : List Bool) : State := { s with bit := memWrite s.bit i vs }
def State.storeRct (s : State) (i : Nat) (vs : List Bool) : State := { s with rct := memWrite s.rct i vs }

/-- The first `n` cells of each matrix memory. -/
def State.imgCells (s : State) (n : Nat) : Array Byte := memCells (Config.imgFill s.resets) s.img n
def State.lumCells (s : State) (n : Nat) : Array Byte := memCells (Config.lumFill s.resets) s.lum n
def State.thrCells (s : State) (n : Nat) : Array F64 := memCells (Config.thrFill s.resets) s.thr n
def State.bitCells (s : State) (n : Nat) : Array Bool := memCells (Config.bitFill s.resets) s.bit n
def State.rctCells (s : State) (n : Nat) : Array Bool := memCells (Config.rctFill s.resets) s.rct n

/-! The end of a command. -/

/-- `cp <- CP + 1` after a command that completed and is not `HALT` (R27, R120). -/
def State.completed (s : State) : State := { s with cp := s.cp + 1#32 }

/-- A command that completed. -/
def State.complete (s : State) : Result := .next s.completed

/-- `HALT`: `DONE` set, `BUSY` cleared, `CP` kept (R122). -/
def State.halted (s : State) : State := { s with status := statusDone s.status }

/-- Fault entry (R390): the record is written, `FAULT` set, `BUSY` cleared, and nothing else changes. -/
def State.faulted (s : State) (c : ErrCode) (info : Nat) : State :=
  { s with err := BitVec.ofNat 32 (errNumber c), epc := s.cp, einfo := BitVec.ofNat 32 info, status := statusFault s.status }

/-- `raise E(info)` (R16, R390): a next state, with the fault taken. -/
def State.raise (s : State) (c : ErrCode) (info : Nat) : Result := .next (s.faulted c info)

/-- `CTRL.CLR` (R32): clears `DONE`, `FAULT`, `ERR`, `EPC`, `EINFO`. -/
def State.cleared (s : State) : State :=
  { s with status := statusClear s.status, err := 0#32, epc := 0#32, einfo := 0#32 }

/-- A start (R424): `CP` 0, the record cleared, `BUSY` set, all else kept. -/
def State.started (s : State) : State :=
  { s with cp := 0#32, status := statusStart s.status, err := 0#32, epc := 0#32, einfo := 0#32 }

/-! Fetch (R120). -/

/-- The word at `CP`, decoded; an error is the fault code and detail the fetch raises: the overrun first (R28),
then an illegal word (R99, R392). -/
def State.fetch (s : State) : Except (ErrCode × Nat) Instr :=
  if Config.cmdSize ≤ s.cp.toNat then .error (.addr, 0)
  else
    match decode (s.cmdWord s.cp.toNat) with
    | .ok i => .ok i
    | .error _ => .error (.illegal, (s.cmdWord s.cp.toNat).toNat)

/-- The host's load and start of one word (R75, R424) without the clearing of anything the fetch does not need:
the word stands where the next fetch reads, and the engine is busy. A `CP` past the memory goes back to 0, and a
reset the host was about to apply is dropped (log 10). -/
def State.placeWord (s : State) (w : Word) : State :=
  let i := if s.cp.toNat < Config.cmdSize then s.cp.toNat else 0
  { s with cmd := memWrite s.cmd i [w], cp := BitVec.ofNat 32 i, status := statusStart s.status,
           hostq := s.hostq.dropWhile fun h => h = .reset }

end Sys2Proof.Machine
end

