-- ==== Sys2Proof/Machine/Operands.lean ====
section
/-! DEFINITION. The operand forms (R94, R95): scalar register values as numbers and as field elements (R131), `SYM`
ranges whose address a register holds (R66), arrays of field elements (R61, R131), the image dimensions (R35). -/

namespace Sys2Proof.Machine

/-- A register value as an unsigned number (R14, R22). -/
def State.natX (s : State) (r : XReg) : Nat := (s.getX r).toNat

/-- `zext_16` of a natural number every rule keeps below 2^16 (R16). -/
def toScalar (n : Nat) : Scalar := BitVec.ofNat 16 n

/-- A field element as a register value. -/
def gfScalar (v : GF) : Scalar := v.setWidth 16

/-- A register value known to be at most 63 as a field element. -/
def scalarGF (v : Scalar) : GF := v.setWidth 6

/-- A byte known to be at most 63 as a field element. -/
def byteGF (v : Byte) : GF := v.setWidth 6

/-- A field element as a byte of memory. -/
def gfByte (v : GF) : Byte := v.setWidth 8

/-- The operand check `gf` (R131): the value is a field element. -/
def isGF (n : Nat) : Bool := decide (n ≤ 63)

/-- The first byte that is no field element, in order (R131). -/
def firstBad (vs : List Byte) : Option Byte := vs.find? fun v => !isGF v.toNat

/-- The bounds rule of `SYM` (R66): an empty range always fits. -/
def symFits (a n : Nat) : Bool := n == 0 || decide (a + n ≤ Config.symSize)

/-- `IMG_W` and `IMG_H` as numbers. -/
def State.width (s : State) : Nat := s.imgW.toNat
def State.height (s : State) : Nat := s.imgH.toNat

/-- `v & ~1` (R14). -/
def evenDown (n : Nat) : Nat := n - n % 2

end Sys2Proof.Machine
end

