-- ==== Sys2Proof/Machine/Binarizer.lean ====
section
/-! DEFINITION. Adaptive binarizer commands (R280 to R295). -/

namespace Sys2Proof.Machine

/-- The weights of R280. -/
def weightR : F64 := Fp.ofRatio 2126 10000
def weightG : F64 := Fp.ofRatio 7152 10000
def weightB : F64 := Fp.ofRatio 722 10000

/-- The luma of a pixel (R283). -/
def lumaOf (r g b : Byte) : Byte :=
  let yv := Fp.add (Fp.add (Fp.mul weightR (Fp.ofNat r.toNat)) (Fp.mul weightG (Fp.ofNat g.toNat)))
    (Fp.mul weightB (Fp.ofNat b.toNat))
  BitVec.ofNat 8 (min (Fp.rne yv).toNat 255)

/-- `255 - v` when `CTRL.INV` is 1 (R281). -/
def invByte (inv : Bool) (v : Byte) : Byte := if inv then 255#8 - v else v

/-- The luma of pixel number `i`, whose bytes are at `4i` (R282). -/
def pixelLuma (inv : Bool) (img : Array Byte) (i : Nat) : Byte :=
  lumaOf (invByte inv (img.getD (4 * i) 0)) (invByte inv (img.getD (4 * i + 1) 0)) (invByte inv (img.getD (4 * i + 2) 0))

/-- The luma matrix of the image (R282). -/
def State.lumaMatrix (s : State) : List Byte :=
  let n := s.width * s.height
  let img := s.imgCells (4 * n)
  (List.range n).map (pixelLuma (invBit s.ctrl) img)

/-- The sum of the 80 x 80 block of luma values at `(x, y)` (R285). -/
def blockSum (w : Nat) (lum : Array Byte) (x y : Nat) : Nat :=
  (List.range 80).foldl (fun acc j =>
    (List.range 80).foldl (fun acc i => acc + (lum.getD ((y + j) * w + (x + i)) 0).toNat) acc) 0

/-- `T(x, y)` (R285, R286). -/
def threshAt (w : Nat) (lum : Array Byte) (x y : Nat) : F64 :=
  Fp.sub (Fp.div (Fp.ofNat (blockSum w lum x y)) (Fp.ofNat 6400)) (Fp.ofNat 2)

/-- The threshold table of a luma matrix, row-major (R287). -/
def threshTable (w h : Nat) (lum : Array Byte) : List F64 :=
  (List.range (h - 79)).flatMap fun y => (List.range (w - 79)).map fun x => threshAt w lum x y

/-- `clamp(v, lo, hi)` (R14). -/
def clampNat (v lo hi : Nat) : Nat := min (max v lo) hi

/-- The threshold of the pixel's block (R289). -/
def blockThresh (w h : Nat) (thr : Array F64) (x y : Nat) : F64 :=
  let bx := clampNat (x + 40) 79 (w - 1) - 79
  let byy := clampNat (y + 40) 79 (h - 1) - 79
  thr.getD (byy * (w - 79) + bx) 0

/-- The decided threshold of a pixel from its block's threshold, its luma and its neighbours' decided thresholds
(R290). -/
def decide290 (x y : Nat) (tau lv up left upLeft : F64) : F64 :=
  if Fp.lt (Fp.abs (Fp.sub tau lv)) (Fp.ofNat 20) then
    if 0 < x ∧ 0 < y then Fp.div (Fp.add (Fp.add up left) upLeft) (Fp.ofNat 3)
    else Fp.sub (Fp.div lv (Fp.ofNat 2)) (Fp.ofNat 2)
  else tau

/-- `num(LUM(x, y))`. -/
def lumNum (w : Nat) (lum : Array Byte) (x y : Nat) : F64 := Fp.ofNat (lum.getD (y * w + x) 0).toNat

/-- The decided thresholds of row `y` at the columns `xs`, from those of the row above (`ups`) and the pixel before. -/
def decideRow (w h : Nat) (lum : Array Byte) (thr : Array F64) (y : Nat) : List Nat → F64 → F64 → List F64 → List F64
  | [], _, _, _ => []
  | x :: xs, left, upLeft, ups =>
    let up := ups.headD 0
    let d := decide290 x y (blockThresh w h thr x y) (lumNum w lum x y) up left upLeft
    d :: decideRow w h lum thr y xs d up ups.tail

/-- The decided thresholds of the rows `ys`, from those of the row above the first (R290). -/
def decideRows (w h : Nat) (lum : Array Byte) (thr : Array F64) : List Nat → List F64 → List (List F64)
  | [], _ => []
  | y :: ys, above =>
    let row := decideRow w h lum thr y (List.range w) 0 0 above
    row :: decideRows w h lum thr ys row

/-- The bit matrix: 1 where the luma is below the decided threshold (R291). -/
def binBits (w h : Nat) (lum : Array Byte) (thr : Array F64) : List Bool :=
  (decideRows w h lum thr (List.range h) []).zipIdx.flatMap fun rowY =>
    rowY.1.zipIdx.map fun dX => Fp.lt (lumNum w lum dX.2 rowY.2) dX.1

/-- The dimension checks of `LUMA`, as the fault they raise (R282). -/
def State.dimFault (s : State) : Option (ErrCode × Nat) :=
  if Config.wmax < s.width then some (.range, s.width)
  else if Config.hmax < s.height then some (.range, s.height)
  else none

/-- The dimension checks of `THRESH`, `BINZ` and `BINARIZE` (R284, R287). -/
def State.blockFault (s : State) : Option (ErrCode × Nat) :=
  match s.dimFault with
  | some e => some e
  | none =>
    if s.width < 80 then some (.imgSmall, s.width)
    else if s.height < 80 then some (.imgSmall, s.height)
    else none

/-- The effect of `LUMA` (R282). -/
def State.withLuma (s : State) : State := s.storeLum 0 s.lumaMatrix

/-- The effect of `THRESH` (R287). -/
def State.withThresh (s : State) : State :=
  s.storeThr 0 (threshTable s.width s.height (s.lumCells (s.width * s.height)))

/-- The effect of `BINZ` (R292). -/
def State.withBinz (s : State) : State :=
  s.storeBit 0 (binBits s.width s.height (s.lumCells (s.width * s.height))
    (s.thrCells ((s.width - 79) * (s.height - 79))))

/-- `LUMA` (R282). -/
def execLuma (s : State) : Result :=
  match s.dimFault with
  | some e => s.raise e.1 e.2
  | none => s.withLuma.complete

/-- `THRESH` (R287). -/
def execThresh (s : State) : Result :=
  match s.blockFault with
  | some e => s.raise e.1 e.2
  | none => s.withThresh.complete

/-- `BINZ` (R292). -/
def execBinz (s : State) : Result :=
  match s.blockFault with
  | some e => s.raise e.1 e.2
  | none => s.withBinz.complete

/-- `BINARIZE` (R295): the three effects in order, as one command. -/
def execBinarize (s : State) : Result :=
  match s.blockFault with
  | some e => s.raise e.1 e.2
  | none => s.withLuma.withThresh.withBinz.complete

end Sys2Proof.Machine
end

