-- ==== Sys2Proof/Machine/RsDecoder.lean ====
section
/-! DEFINITION. Reed-Solomon decoder commands (R200 to R218). -/

namespace Sys2Proof.Machine

/-- The decoder's three failures (R217). -/
inductive RsFail where
  | keyEquation
  | rootCount
  | location
  deriving DecidableEq, Repr

/-- The number of a failure mode (R217, R382). -/
def rsFailNumber : RsFail → Nat
  | .keyEquation => 1
  | .rootCount => 2
  | .location => 3

/-- The point of syndrome `i`: `EXP[i]` from the table, and a free value above it (R202, R136, log 13). -/
def synPoint (i : Nat) : GF := if i ≤ 63 then gexp i else Config.expBeyond i

/-- Step 1, the syndrome polynomial: `S_i` is the coefficient of `X^i` (R202). -/
def syn (cw : List GF) (k : Nat) : Poly :=
  norm (((List.range k).map fun i => ev (norm cw) (synPoint i)).reverse)

/-- The Euclidean loop (R206); `fuel` bounds the rounds, of which there are at most `k`. Answers `R_1` and `A_1`. -/
def keyLoop (k : Nat) : Nat → Poly → Poly → Poly → Poly → Poly × Poly
  | 0, _, r1, _, a1 => (r1, a1)
  | fuel + 1, r2, r1, a2, a1 =>
    if k ≤ 2 * deg r1 then
      keyLoop k fuel r1 (pdivmod r2 r1).2 a1 (padd a2 (pmul (pdivmod r2 r1).1 a1))
    else (r1, a1)

/-- Step 2, the key equation: sigma and omega (R205, R206, R208). -/
def key (sp : Poly) (k : Nat) : Except RsFail (Poly × Poly) :=
  let (r1, a1) := keyLoop k (k + 1) (mono k 1) sp [0] [1]
  let c := coef a1 0
  if c = 0 then .error .keyEquation
  else .ok (pmuls a1 (ginv c), pmuls r1 (ginv c))

/-- The 63 non-zero field elements, ascending (R209). -/
def betas : List GF := (List.range 63).map fun i => BitVec.ofNat 6 (i + 1)

/-- Step 3, the exhaustive root search (R209). -/
def roots (sigma : Poly) : Except RsFail (List GF) :=
  let xl := (betas.filter fun b => ev sigma b == 0).map ginv
  if xl.length = deg sigma then .ok xl else .error .rootCount

/-- The Forney denominator of entry `i`: the product over the other entries (R212). -/
def magDen (xl : List GF) (i : Nat) : GF :=
  (List.range xl.length).foldl
    (fun den j => if j = i then den else gmul den (1 ^^^ gmul (ginv (xl.getD i 0)) (xl.getD j 0))) 1

/-- Step 4, the magnitudes (R212), for a list without zero entries and without a zero denominator. -/
def mags (omega : Poly) (xl : List GF) : List GF :=
  (List.range xl.length).map fun i => gmul (ev omega (ginv (xl.getD i 0))) (ginv (magDen xl i))

/-- `log(X_i)` of a located, so non-zero, element (R215). -/
def locLog (v : GF) : Nat := (glog v).getD 0

/-- Step 5: every magnitude is added at the index of its locator (R215). -/
def applyErrors (cw : List GF) (xl es : List GF) : List GF :=
  (xl.zip es).foldl (fun out xe => out.modify (cw.length - 1 - locLog xe.1) (fun c => c ^^^ xe.2)) cw

/-- The whole decoder (R217); all indices are tested before any symbol is changed (R216). -/
def rsdec (cw : List GF) (k : Nat) : Except RsFail (List GF × Nat) :=
  let sp := syn cw k
  if sp = [0] then .ok (cw, 0)
  else
    match key sp k with
    | .error f => .error f
    | .ok (sigma, omega) =>
      match roots sigma with
      | .error f => .error f
      | .ok xl =>
        if xl.any fun v => decide (cw.length - 1 < locLog v) then .error .location
        else .ok (applyErrors cw xl (mags omega xl), xl.length)

/-- `RSSYN pd, (xs1), xs2, xs3` (R204). -/
def execRssyn (pd : PReg) (xs1 xs2 xs3 : XReg) (s : State) : Result :=
  let src := s.natX xs1
  let n := s.natX xs2
  let k := s.natX xs3
  if n = 0 ∨ Config.pmax < n then s.raise .range n
  else if Config.kmax < k then s.raise .range k
  else if !symFits src n then s.raise .addr src
  else
    match firstBad (s.symBytes src n) with
    | some v => s.raise .range v.toNat
    | none => (s.setP pd (syn ((s.symBytes src n).map byteGF) k)).complete

/-- `RSKEY psigma, pomega, ps1, xs2` (R207, R208). -/
def execRskey (psigma ps1 : PReg) (xs2 : XReg) (pomega : PReg) (s : State) : Result :=
  let k := s.natX xs2
  let sp := s.getP ps1
  if psigma = pomega then s.raise .illegal (encode (.rskey psigma ps1 xs2 pomega)).toNat
  else if k = 0 ∨ Config.kmax < k then s.raise .range k
  else if k ≤ deg sp then s.raise .range (deg sp)
  else
    match key sp k with
    | .error f => s.raise .rsFail (rsFailNumber f)
    | .ok (sigma, omega) => ((s.setP psigma sigma).setP pomega omega).complete

/-- `RSROOT xd, ps1, (xs2)` (R211). -/
def execRsroot (xd : XReg) (ps1 : PReg) (xs2 : XReg) (s : State) : Result :=
  let dst := s.natX xs2
  match roots (s.getP ps1) with
  | .error f => s.raise .rsFail (rsFailNumber f)
  | .ok xl =>
    if !symFits dst xl.length then s.raise .addr dst
    else ((s.storeSym dst (xl.map gfByte)).setX xd (toScalar xl.length)).complete

/-- The first byte of a locator list that is no non-zero field element (R214). -/
def firstBadLoc (vs : List Byte) : Option Byte := vs.find? fun v => !isGF v.toNat || v == 0#8

/-- `RSMAG (xs0), ps1, (xs2), xs3` (R214). -/
def execRsmag (xs0 : XReg) (ps1 : PReg) (xs2 xs3 : XReg) (s : State) : Result :=
  let dst := s.natX xs0
  let src := s.natX xs2
  let m := s.natX xs3
  let xl := (s.symBytes src m).map byteGF
  if 63 < m then s.raise .range m
  else if !symFits src m then s.raise .addr src
  else if !symFits dst m then s.raise .addr dst
  else
    match firstBadLoc (s.symBytes src m) with
    | some v => if isGF v.toNat then s.raise .gfZero 0 else s.raise .range v.toNat
    | none =>
      if (List.range m).any fun i => magDen xl i == 0 then s.raise .gfZero 0
      else (s.storeSym dst ((mags (s.getP ps1) xl).map gfByte)).complete

/-- `RSDEC (xs0), (xs1), xs2, xs3` (R218). -/
def execRsdec (xs0 xs1 xs2 xs3 : XReg) (s : State) : Result :=
  let dst := s.natX xs0
  let src := s.natX xs1
  let n := s.natX xs2
  let k := s.natX xs3
  if n = 0 ∨ Config.pmax < n then s.raise .range n
  else if Config.kmax < k then s.raise .range k
  else if !symFits src n then s.raise .addr src
  else if !symFits dst n then s.raise .addr dst
  else
    match firstBad (s.symBytes src n) with
    | some v => s.raise .range v.toNat
    | none =>
      match rsdec ((s.symBytes src n).map byteGF) k with
      | .error f => s.raise .rsFail (rsFailNumber f)
      | .ok (out, cnt) => State.complete { s.storeSym dst (out.map gfByte) with ncorr := BitVec.ofNat 32 cnt }

end Sys2Proof.Machine
end

