-- ==== Sys2Proof/Machine/RsEncoder.lean ====
section
/-! DEFINITION. Reed-Solomon encoder commands (R190 to R196). -/

namespace Sys2Proof.Machine

/-- The generator polynomial `G_k` (R191). -/
def genPoly : Nat → Poly
  | 0 => [1]
  | k + 1 => pmul (genPoly k) [1, gexp k]

/-- The cache grown until it holds `G_0 .. G_k` (R39, R196). -/
def growGen (g : List Poly) (k : Nat) : List Poly := g ++ ((List.range (k + 1)).drop g.length).map genPoly

/-- The one hidden effect of a command that asks for `G_k` (R196); no result depends on it (R39, log 12). -/
def State.cacheGen (s : State) (k : Nat) : State := { s with gen := growGen s.gen k }

/-- The encoding function (R192): the remainder is right-aligned to `k` cells behind the data. -/
def rsenc (data : List GF) (k : Nat) : List GF :=
  if k = 0 then data
  else data ++ padTo k (pdivmod (norm (data ++ zeros k)) (genPoly k)).2

/-- `RSGEN pd, xs1` (R193). -/
def execRsgen (pd : PReg) (xs1 : XReg) (s : State) : Result :=
  let k := s.natX xs1
  if Config.kmax < k then s.raise .range k
  else ((s.setP pd (genPoly k)).cacheGen k).complete

/-- `RSENC (xs0), (xs1), xs2, xs3` (R194). -/
def execRsenc (xs0 xs1 xs2 xs3 : XReg) (s : State) : Result :=
  let dst := s.natX xs0
  let src := s.natX xs1
  let n := s.natX xs2
  let k := s.natX xs3
  if n = 0 then s.raise .range 0
  else if Config.kmax < k then s.raise .range k
  else if Config.pmax < n + k then s.raise .range (n + k)
  else if !symFits src n then s.raise .addr src
  else if !symFits dst (n + k) then s.raise .addr dst
  else
    match firstBad (s.symBytes src n) with
    | some v => s.raise .range v.toNat
    | none => ((s.storeSym dst ((rsenc ((s.symBytes src n).map byteGF) k).map gfByte)).cacheGen k).complete

end Sys2Proof.Machine
end

