-- ==== Sys2Proof/Machine/ContentCodec.lean ====
section
/-! DEFINITION. Content codec commands (R230 to R250). -/

namespace Sys2Proof.Machine

/-- `ALPHA`: the character codes of the 64 field elements (R231). -/
def alphabet : List Byte :=
  [0x41, 0x42, 0x43, 0x44, 0x45, 0x46, 0x47, 0x48, 0x49, 0x4A, 0x4B, 0x4C, 0x4D, 0x4E, 0x4F, 0x50,
   0x51, 0x52, 0x53, 0x54, 0x55, 0x56, 0x57, 0x58, 0x59, 0x5A, 0x30, 0x31, 0x32, 0x33, 0x34, 0x35,
   0x36, 0x37, 0x38, 0x39, 0x21, 0x40, 0x23, 0x24, 0x25, 0x5E, 0x26, 0x2A, 0x28, 0x29, 0x7B, 0x7D,
   0x5B, 0x5D, 0x5F, 0x2B, 0x2D, 0x3D, 0x2E, 0x2C, 0x3A, 0x3B, 0x2F, 0x3F, 0x3C, 0x3E, 0x22, 0x20]

/-- `ALPHA[v]` (R231). -/
def alphaChar (v : GF) : Byte := alphabet.getD v.toNat 0

/-- `AIDX(c)`, none for a code outside the alphabet (R231). -/
def alphaIndex (c : Byte) : Option GF := (alphabet.findIdx? fun d => d == c).map (BitVec.ofNat 6)

/-- Upper-casing of one byte (R237). -/
def upper (c : Byte) : Byte := if 0x61 ≤ c.toNat ∧ c.toNat ≤ 0x7A then c - 0x20#8 else c

/-- The field element of a payload byte (R237). -/
def payIndex (c : Byte) : Option GF := alphaIndex (upper c)

/-- The index of the first payload byte outside the alphabet (R237). -/
def firstBadChar (pay : List Byte) : Option Nat := pay.findIdx? fun c => (payIndex c).isNone

/-- The level is accepted (R233): a NaN fails both comparisons. -/
def levelOk (ec : F64) : Bool := Fp.le (Fp.ofNat 0) ec && Fp.le ec (Fp.ofNat 1)

/-- The parity count of step 2 (R234). -/
def firstParity (len : Nat) (ec : F64) : Nat := (Fp.ceil (Fp.mul (Fp.ofNat len) ec)).toNat * 2

/-- `minSize` (R235). -/
def minSize (len : Nat) (ec : F64) : Nat := 2 + len + firstParity len ec

/-- The least side whose square is at least `ms`, for `ms` up to 64 (R235). -/
def sideFor (ms : Nat) : Nat := ((List.range 8).find? fun w => decide (ms ≤ w * w)).getD 8

/-- The final parity count (R236). -/
def finalParity (len : Nat) (ec : F64) : Nat :=
  let side := sideFor (minSize len ec)
  firstParity len ec + evenDown (side * side - minSize len ec)

/-- The data cells (R236, R238): version, length, mapped characters, at most one zero. -/
def codeData (pay : List Byte) (nd : Nat) : List GF :=
  let head := [1#6, BitVec.ofNat 6 pay.length] ++ pay.map fun c => (payIndex c).getD 0
  head ++ zeros (nd - head.length)

/-- `CENC (xs0), (xs1), xs2` (R240). -/
def execCenc (xs0 xs1 xs2 : XReg) (s : State) : Result :=
  let dst := s.natX xs0
  let src := s.natX xs1
  let len := s.natX xs2
  let ms := minSize len s.eclvl
  let side := sideFor ms
  let parity := finalParity len s.eclvl
  if len = 0 then s.raise .emptyPayload 0
  else if !levelOk s.eclvl then s.raise .ecLevel 0
  else if Config.maxSize < ms then s.raise .tooBig ms
  else if !symFits src len then s.raise .addr src
  else if !symFits dst (side * side) then s.raise .addr dst
  else
    match firstBadChar (s.symBytes src len) with
    | some i => s.raise .badChar i
    | none =>
      let code := rsenc (codeData (s.symBytes src len) (side * side - parity)) parity
      State.complete { (s.storeSym dst (code.map gfByte)).cacheGen parity with
        codeSize := BitVec.ofNat 32 side, codeVer := 1#32, par := BitVec.ofNat 32 parity }

/-- The parity count the decoder derives (R245 step 2). -/
def derivedParity (n len : Nat) : Nat := evenDown (n - 2 - len)

/-- Steps 1 (after the squareness test) to 4 of the content decoder (R245, R247): the payload length, the parity
count, the number corrected and the corrected array, or the detail of `E_INVALID_CODE` (R246). -/
def cdecCheck (data : List Byte) : Except Nat (Nat × Nat × Nat × List Byte) :=
  let n := data.length
  let len := (data.getD 1 0).toNat
  let parity := derivedParity n len
  if (data.getD 0 0).toNat ≠ 1 then .error 1
  else if n < 2 ∨ len < 1 ∨ n < len + 2 then .error 2
  else if parity = 0 then .ok (len, 0, 0, data)
  else if data.any fun v => !isGF v.toNat then .error 5
  else
    match rsdec (data.map byteGF) parity with
    | .error f => .error (0x10 + rsFailNumber f)
    | .ok (out, cnt) =>
      let outB := out.map gfByte
      if outB.getD 0 0 ≠ data.getD 0 0 ∨ outB.getD 1 0 ≠ data.getD 1 0 then .error 4
      else .ok (len, parity, cnt, outB)

/-- `CDEC (xs0), (xs1), xs2` (R250). -/
def execCdec (xs0 xs1 xs2 : XReg) (s : State) : Result :=
  let dst := s.natX xs0
  let src := s.natX xs1
  let n := s.natX xs2
  let size := s.codeSize.toNat
  if n = 0 ∨ Config.pmax < n then s.raise .range n
  else if size * size ≠ n then s.raise .notSquare size
  else if !symFits src n then s.raise .addr src
  else
    match cdecCheck (s.symBytes src n) with
    | .error info => s.raise .invalidCode info
    | .ok (len, parity, cnt, out) =>
      if !symFits dst len then s.raise .addr dst
      else if ((out.drop 2).take len).any fun v => !isGF v.toNat then s.raise .invalidCode 5
      else
        State.complete { s.storeSym dst (((out.drop 2).take len).map fun v => alphaChar (byteGF v)) with
          codeVer := 1#32, plen := BitVec.ofNat 32 len, par := BitVec.ofNat 32 parity, ncorr := BitVec.ofNat 32 cnt }

end Sys2Proof.Machine
end

