-- ==== Sys2Proof/Machine/Control.lean ====
section
/-! DEFINITION. Control and move commands (R122 to R125). -/

namespace Sys2Proof.Machine

/-- `HALT` (R122). -/
def execHalt (s : State) : Result := .next s.halted

/-- `LI xd, imm16` (R123). -/
def execLi (xd : XReg) (imm : BitVec 16) (s : State) : Result := (s.setX xd imm).complete

/-- `LDS xd, (xs1)` (R124). -/
def execLds (xd xs1 : XReg) (s : State) : Result :=
  let addr := s.natX xs1
  if Config.symSize ≤ addr then s.raise .addr addr
  else (s.setX xd ((s.symByte addr).setWidth 16)).complete

/-- `STS xs2, (xs1)` (R125): the value check comes first. -/
def execSts (xs1 xs2 : XReg) (s : State) : Result :=
  let addr := s.natX xs1
  let v := s.natX xs2
  if 255 < v then s.raise .range v
  else if Config.symSize ≤ addr then s.raise .addr addr
  else (s.storeSym addr [BitVec.ofNat 8 v]).complete

end Sys2Proof.Machine
end

