-- ==== Sys2Proof/Machine/Locator.lean ====
section
/-! DEFINITION. Pattern locator commands (R300 to R328). -/

namespace Sys2Proof.Machine

/-- A bit matrix read whole: `w x h` cells, row-major. -/
structure Grid where
  w : Nat
  h : Nat
  cells : Array Bool

/-- The cell at a point, none outside the matrix (R15). -/
def gridAt (g : Grid) (x y : Int) : Option Bool :=
  if 0 ≤ x ∧ x < g.w ∧ 0 ≤ y ∧ y < g.h then g.cells[y.toNat * g.w + x.toNat]? else none

/-- `BIT` as `IMG_W`, `IMG_H` say (R45). -/
def State.bitGrid (s : State) : Grid :=
  { w := s.width, h := s.height, cells := s.bitCells (s.width * s.height) }

/-- The finder ratio `RF` and the alignment ratio `RA` (R300). -/
def finderRatio : List Nat := [1, 1, 3, 1, 1]
def alignRatio : List Nat := [1, 3, 1]

/-- A run of equal bits in a row (R302). -/
structure Run where
  start : Nat
  len : Nat
  black : Bool
  deriving DecidableEq, Repr

/-- The runs of a row segment whose first column is `c` (R302). -/
def runsFrom (c : Nat) : List Bool → List Run
  | [] => []
  | b :: bs =>
    match runsFrom (c + 1) bs with
    | [] => [{ start := c, len := 1, black := b }]
    | r :: rs =>
      if r.black = b then { start := c, len := r.len + 1, black := b } :: rs
      else { start := c, len := 1, black := b } :: r :: rs

/-- The runs of row `y` over the columns `[xs, xe)` (R302). -/
def rowRuns (g : Grid) (xs xe y : Nat) : List Run :=
  runsFrom xs ((List.range (xe - xs)).map fun i => g.cells.getD (y * g.w + (xs + i)) false)

/-- The windows of `n` consecutive runs that begin on a black run, ascending (R303). -/
def windows (n : Nat) : List Run → List (List Run)
  | [] => []
  | r :: rs =>
    if r.black && decide (n ≤ rs.length + 1) then (r :: rs.take (n - 1)) :: windows n rs else windows n rs

/-- Ratio validation (R304). -/
def validRuns (lens ratio : List Nat) : Bool :=
  let unit := Fp.div (Fp.ofNat lens.sum) (Fp.ofNat ratio.sum)
  decide (ratio.sum ≤ lens.sum) &&
    (lens.zip ratio).all fun lr =>
      Fp.lt (Fp.abs (Fp.sub (Fp.ofNat lr.1) (Fp.mul (Fp.ofNat lr.2) unit))) (Fp.div unit (Fp.ofNat 2))

/-- The number of consecutive cells of one colour from a point on, in steps of `(dx, dy)` (R306); `fuel` is at
least the number of cells any line of the matrix has. -/
def runLength (g : Grid) (black : Bool) (dx dy : Int) : Nat → Int → Int → Nat
  | 0, _, _ => 0
  | fuel + 1, px, py =>
    if gridAt g px py = some black then runLength g black dx dy fuel (px + dx) (py + dy) + 1 else 0

/-- The lengths of the runs of the given colours met from a point on; an empty run fails, but for the first where
`firstMayBeEmpty` says so (R306). -/
def scanRuns (g : Grid) (dx dy : Int) : List Bool → Bool → Int → Int → Option (List Nat)
  | [], _, _, _ => some []
  | c :: cs, firstMayBeEmpty, px, py =>
    let n := runLength g c dx dy (g.w + g.h) px py
    if n = 0 && !firstMayBeEmpty then none
    else (scanRuns g dx dy cs false (px + n * dx) (py + n * dy)).map fun ns => n :: ns

/-- The result of a cross scan: the run lengths, and the pattern pixels before and after the centre (R306). -/
structure Scan where
  lens : List Nat
  before : Nat
  after : Nat

/-- The middle index of a ratio of `n` entries (R300). -/
def midOf (n : Nat) : Nat := (n - 1) / 2

/-- The colours from the middle entry outward: black for an even index (R300). -/
def halfColours (n : Nat) : List Bool := (List.range (midOf n + 1)).map fun j => (midOf n - j) % 2 == 0

/-- The cross scan (R306). -/
def crossScan (g : Grid) (x y dx dy : Int) (n : Nat) : Option Scan :=
  if gridAt g x y ≠ some (midOf n % 2 == 0) then none
  else
    match scanRuns g (-dx) (-dy) (halfColours n) false x y, scanRuns g dx dy (halfColours n) true (x + dx) (y + dy) with
    | some back, some fwd =>
      some { lens := back.tail.reverse ++ [back.headD 0 + fwd.headD 0] ++ fwd.tail,
             before := back.sum - 1, after := fwd.sum }
    | _, _ => none

/-- A candidate (R311). -/
structure Cand where
  x : F64
  y : F64
  size : F64
  err : F64
  deriving DecidableEq, Repr

/-- The four directions with their weights (R309). -/
def directions : List (Int × Int × F64) :=
  [(0, 1, Fp.ofNat 1), (1, 0, Fp.ofNat 1), (1, 1, Fp.sqrtTwo), (1, -1, Fp.sqrtTwo)]

/-- The four scans through a pixel, with their weights; none if one fails (R309). -/
def fourScans (g : Grid) (x y : Int) (n : Nat) : Option (List (List Nat × F64)) :=
  directions.mapM fun d => (crossScan g x y d.1 d.2.1 n).map fun sc => (sc.lens, d.2.2)

/-- The size of a pattern from its four scans (R309). -/
def patternSize (scans : List (List Nat × F64)) : F64 :=
  Fp.div (scans.foldl (fun acc lw => Fp.add acc (Fp.mul lw.2 (Fp.ofNat lw.1.sum))) (Fp.ofNat 0)) (Fp.ofNat 4)

/-- The error of a pattern (R310). -/
def patternErr (scans : List (List Nat × F64)) (ratio : List Nat) (unit : F64) : F64 :=
  let total := scans.foldl (fun acc lw =>
    (lw.1.zip ratio).foldl (fun acc sr =>
      let t := Fp.sub (Fp.div (Fp.div (Fp.mul lw.2 (Fp.ofNat sr.1)) unit) (Fp.ofNat sr.2)) (Fp.ofNat 1)
      Fp.add acc (Fp.mul t t)) acc) (Fp.ofNat 0)
  Fp.div total (Fp.ofNat (4 * ratio.length))

/-- The candidate column of a window (R305). -/
def windowColumn (win : List Run) : Int :=
  let n := win.length
  let lens := win.map fun r => r.len
  let stop := (win.getLast?.map fun r => r.start + r.len).getD 0
  let cx := Fp.sub (Fp.sub (Fp.ofNat stop) (Fp.ofNat (lens.drop (midOf n + 1)).sum))
    (Fp.div (Fp.ofNat (lens.getD (midOf n) 0)) (Fp.ofNat 2))
  Fp.floor cx

/-- The centre coordinate from a pixel index and the scan through it (R308). -/
def refine (i : Int) (sc : Scan) : F64 :=
  Fp.add (Fp.ofInt i) (Fp.div (Fp.ofInt ((sc.after : Int) - (sc.before : Int))) (Fp.ofNat 2))

/-- From a window of row `y` to a candidate (R304 to R310). -/
def candOf (g : Grid) (ratio : List Nat) (y : Nat) (win : List Run) : Option Cand :=
  let n := ratio.length
  if !validRuns (win.map fun r => r.len) ratio then none
  else
    let xi := windowColumn win
    match crossScan g xi y 0 1 n with
    | none => none
    | some v =>
      if !validRuns v.lens ratio then none
      else
        match crossScan g xi y 1 0 n with
        | none => none
        | some hs =>
          let cx := refine xi hs
          let cy := refine y v
          match fourScans g (Fp.floor cx) (Fp.floor cy) n with
          | none => none
          | some scans =>
            let size := patternSize scans
            let unit := Fp.div size (Fp.ofNat ratio.sum)
            some { x := cx, y := cy, size := size, err := patternErr scans ratio unit }

/-- The sweep over every other row of `[ys, ye)` and the columns `[xs, xe)` (R311). -/
def sweep (g : Grid) (ratio : List Nat) (xs xe ys ye : Nat) : List Cand :=
  (List.range ((ye - ys + 1) / 2)).flatMap fun j =>
    (windows ratio.length (rowRuns g xs xe (ys + 2 * j))).filterMap (candOf g ratio (ys + 2 * j))

/-- The distance of two points in `NUM` (R312). -/
def dist (a b : Point) : F64 :=
  let dx := Fp.sub a.x b.x
  let dy := Fp.sub a.y b.y
  Fp.sqrt (Fp.add (Fp.mul dx dx) (Fp.mul dy dy))

/-- A candidate's centre. -/
def Cand.centre (c : Cand) : Point := { x := c.x, y := c.y }

/-- Inserts before the first entry of no smaller error. -/
def insertCand (c : Cand) : List Cand → List Cand
  | [] => [c]
  | d :: ds => if Fp.le c.err d.err then c :: d :: ds else d :: insertCand c ds

/-- The stable sort by ascending error (R312). -/
def sortCands (cs : List Cand) : List Cand := cs.foldr insertCand []

/-- The greedy choice of at most three distinct candidates (R313). -/
def pick3 (cs : List Cand) : List Cand :=
  cs.foldl (fun chosen c =>
    if chosen.length < 3 && chosen.all fun d => Fp.le (Fp.ofNat 50) (dist c.centre d.centre) then chosen ++ [c] else chosen) []

/-- The greatest size (R318). -/
def maxSizeOf (cs : List Cand) : F64 :=
  cs.foldl (fun mx c => if Fp.lt mx c.size then c.size else mx) (Fp.ofNat 0)

/-- A candidate survives the size filter (R318). -/
def keepsSize (est : F64) (c : Cand) : Bool :=
  !(Fp.le (Fp.mul (Fp.ofNat 5) est) c.size || Fp.le (Fp.mul (Fp.ofNat 4) c.size) est)

/-- The corners `TL, TR, BL` of three chosen points (R319). -/
def corners (a b c : Point) : Point × Point × Point :=
  let dab := dist a b
  let dac := dist a c
  let dbc := dist b c
  let (tr, bl, tl) :=
    if Fp.le dac dab && Fp.le dbc dab then (a, b, c)
    else if Fp.le dbc dac then (a, c, b)
    else (b, c, a)
  let z := Fp.sub (Fp.mul (Fp.sub tr.x bl.x) (Fp.sub tl.y bl.y)) (Fp.mul (Fp.sub tr.y bl.y) (Fp.sub tl.x bl.x))
  if Fp.lt (Fp.ofNat 0) z then (tl, bl, tr) else (tl, tr, bl)

/-- `LOCF` as a function: the record with the three finders and their average size, or the fault (R318 to R321). -/
def findFinders (g : Grid) (pl : Patterns) : Except (ErrCode × Nat) Patterns :=
  let sorted := sortCands (sweep g finderRatio 0 g.w 0 g.h)
  let first := pick3 sorted
  if first.length < 3 then .error (.noFinders, first.length)
  else
    match pick3 (sorted.filter (keepsSize (maxSizeOf first))) with
    | [a, b, c] =>
      let cor := corners a.centre b.centre c.centre
      .ok { pl with
        tl := cor.1, tr := cor.2.1, bl := cor.2.2,
        fsize := Fp.div (Fp.add (Fp.add a.size b.size) c.size) (Fp.ofNat 3) }
    | few => .error (.noValidFinders, few.length)

/-- The finiteness check of `LOCA` (R326). -/
def locaFinite (pl : Patterns) : Bool :=
  Fp.isFinite pl.tl.x && Fp.isFinite pl.tl.y && Fp.isFinite pl.tr.x && Fp.isFinite pl.tr.y &&
    Fp.isFinite pl.bl.x && Fp.isFinite pl.bl.y && Fp.isFinite pl.fsize

/-- The estimated bottom-right corner (R322). -/
def estimateBr (pl : Patterns) : Point :=
  { x := Fp.add (Fp.sub pl.tr.x pl.tl.x) pl.bl.x, y := Fp.add (Fp.sub pl.tr.y pl.tl.y) pl.bl.y }

/-- `expected` (R322). -/
def expectedSize (pl : Patterns) : F64 := Fp.div (Fp.mul pl.fsize (Fp.ofNat 5)) (Fp.ofNat 7)

/-- `rho` (R323). -/
def searchRadius (pl : Patterns) : F64 :=
  Fp.div (Fp.div (Fp.add (dist pl.tl pl.tr) (dist pl.tl pl.bl)) (Fp.ofNat 2)) (Fp.ofNat 2)

/-- `max(0, floor(v))`; none where no window can begin: `v` is a NaN or +infinity (R323, R326, log 14). -/
def windowStart (v : F64) : Option Nat :=
  if Fp.isFinite v then some (Fp.floor v).toNat
  else if Fp.isInf v && Fp.isNeg v then some 0
  else none

/-- `min(lim, floor(v) + 1)`, 0 where it is negative; none where no window can end: `v` is a NaN or -infinity. -/
def windowEnd (lim : Nat) (v : F64) : Option Nat :=
  if Fp.isFinite v then some (min lim (Fp.floor v + 1).toNat)
  else if Fp.isInf v && !Fp.isNeg v then some lim
  else none

/-- The candidates of the alignment window (R323). -/
def alignCands (g : Grid) (pl : Patterns) : List Cand :=
  let br := estimateBr pl
  let rho := searchRadius pl
  match windowStart (Fp.sub br.x rho), windowEnd g.w (Fp.add br.x rho),
        windowStart (Fp.sub br.y rho), windowEnd g.h (Fp.add br.y rho) with
  | some xs, some xe, some ys, some ye => if xs < xe ∧ ys < ye then sweep g alignRatio xs xe ys ye else []
  | _, _, _, _ => []

/-- The size window of an adopted candidate (R324). -/
def adoptable (expected : F64) (c : Cand) : Bool :=
  Fp.le (Fp.div expected (Fp.ofNat 4)) c.size && Fp.le c.size (Fp.mul (Fp.ofNat 5) expected)

/-- `LOCA` as a function of the matrix and the record (R322 to R324). -/
def findAlignment (g : Grid) (pl : Patterns) : Patterns :=
  match (sortCands (alignCands g pl)).find? (adoptable (expectedSize pl)) with
  | some c => { pl with br := c.centre, asize := c.size }
  | none => { pl with br := estimateBr pl, asize := expectedSize pl }

/-- `LOCF` (R320). -/
def execLocf (s : State) : Result :=
  match s.dimFault with
  | some e => s.raise e.1 e.2
  | none =>
    match findFinders s.bitGrid s.pl with
    | .error e => s.raise e.1 e.2
    | .ok pl => State.complete { s with pl := pl }

/-- `LOCA` (R326). -/
def execLoca (s : State) : Result :=
  match s.dimFault with
  | some e => s.raise e.1 e.2
  | none =>
    if !locaFinite s.pl then s.raise .range 0
    else State.complete { s with pl := findAlignment s.bitGrid s.pl }

/-- `LOCATE` (R328): both searches, then the ten CSRs together. -/
def execLocate (s : State) : Result :=
  match s.dimFault with
  | some e => s.raise e.1 e.2
  | none =>
    match findFinders s.bitGrid s.pl with
    | .error e => s.raise e.1 e.2
    | .ok pl =>
      if !locaFinite pl then s.raise .range 0
      else State.complete { s with pl := findAlignment s.bitGrid pl }

end Sys2Proof.Machine
end

