-- ==== Sys2Proof/Machine/Extractor.lean ====
section
/-! DEFINITION. Perspective transform and symbol extractor commands (R340 to R370). -/

namespace Sys2Proof.Machine

/-! The homography. -/

/-- A 3 x 3 matrix of `NUM` values, row-major. -/
abbrev Mat3 := Vector F64 9

/-- Entry `(r, c)` of a matrix (R36). -/
def matAt (a : Mat3) (r c : Fin 3) : F64 := a[3 * r.val + c.val]

/-- The difference of two products, the form of every cofactor. -/
def cross2 (a b c d : F64) : F64 := Fp.sub (Fp.mul a b) (Fp.mul c d)

/-- The square-to-quadrilateral matrix (R343). -/
def s2q (p0 p1 p2 p3 : Point) : Mat3 :=
  let dx3 := Fp.sub (Fp.add (Fp.sub p0.x p1.x) p2.x) p3.x
  let dy3 := Fp.sub (Fp.add (Fp.sub p0.y p1.y) p2.y) p3.y
  let dx1 := Fp.sub p1.x p2.x
  let dx2 := Fp.sub p3.x p2.x
  let dy1 := Fp.sub p1.y p2.y
  let dy2 := Fp.sub p3.y p2.y
  let denom := cross2 dx1 dy2 dx2 dy1
  let affine := Fp.eq dx3 (Fp.ofNat 0) && Fp.eq dy3 (Fp.ofNat 0)
  let g := if affine then Fp.ofNat 0 else Fp.div (cross2 dx3 dy2 dx2 dy3) denom
  let h := if affine then Fp.ofNat 0 else Fp.div (cross2 dx1 dy3 dx3 dy1) denom
  #v[Fp.add (Fp.sub p1.x p0.x) (Fp.mul g p1.x), Fp.add (Fp.sub p3.x p0.x) (Fp.mul h p3.x), p0.x,
     Fp.add (Fp.sub p1.y p0.y) (Fp.mul g p1.y), Fp.add (Fp.sub p3.y p0.y) (Fp.mul h p3.y), p0.y,
     g, h, Fp.ofNat 1]

/-- The adjugate (R344). -/
def adj (a : Mat3) : Mat3 :=
  #v[cross2 a[4] a[8] a[5] a[7], cross2 a[2] a[7] a[1] a[8], cross2 a[1] a[5] a[2] a[4],
     cross2 a[5] a[6] a[3] a[8], cross2 a[0] a[8] a[2] a[6], cross2 a[2] a[3] a[0] a[5],
     cross2 a[3] a[7] a[4] a[6], cross2 a[1] a[6] a[0] a[7], cross2 a[0] a[4] a[1] a[3]]

/-- Entry `(r, c)` of a product (R344). -/
def matMulAt (a b : Mat3) (r c : Fin 3) : F64 :=
  Fp.add (Fp.add (Fp.mul (matAt a r 0) (matAt b 0 c)) (Fp.mul (matAt a r 1) (matAt b 1 c)))
    (Fp.mul (matAt a r 2) (matAt b 2 c))

/-- The product of two matrices (R344). -/
def matMul (a b : Mat3) : Mat3 :=
  #v[matMulAt a b 0 0, matMulAt a b 0 1, matMulAt a b 0 2, matMulAt a b 1 0, matMulAt a b 1 1, matMulAt a b 1 2,
     matMulAt a b 2 0, matMulAt a b 2 1, matMulAt a b 2 2]

/-- `apply(A, x, y)` (R344). -/
def applyMat (a : Mat3) (x y : F64) : Point :=
  let row := fun r : Fin 3 => Fp.add (Fp.add (Fp.mul (matAt a r 0) x) (Fp.mul (matAt a r 1) y)) (matAt a r 2)
  { x := Fp.div (row 0) (row 2), y := Fp.div (row 1) (row 2) }

/-- The corner coordinates that `XFORM` tests are finite (R350). -/
def xformFinite (pl : Patterns) : Bool :=
  [pl.tl, pl.tr, pl.bl, pl.br].all fun q => Fp.isFinite q.x && Fp.isFinite q.y

/-- The side before it is floored: `(dist(TL,TR) + dist(TL,BL)) / 2 + 0.5` (R341, R350). -/
def rectSide (pl : Patterns) : F64 :=
  Fp.add (Fp.div (Fp.add (dist pl.tl pl.tr) (dist pl.tl pl.bl)) (Fp.ofNat 2)) (Fp.ofRatio 1 2)

/-- The accepted side, or the detail of `E_RANGE` (R345, R350): the floor of a finite value, bounded by 2^32 - 1. -/
def sideOf (v : F64) : Except Nat Nat :=
  if Fp.isNan v then .error 0
  else if Fp.isInf v then .error (2 ^ 32 - 1)
  else
    let n := (Fp.floor v).toNat
    if n < 1 ∨ Config.rmax < n then .error (min n (2 ^ 32 - 1)) else .ok n

/-- The transform matrix (R346). -/
def xformMat (pl : Patterns) (n : Nat) : Mat3 :=
  let z := Fp.ofNat 0
  let e := Fp.ofNat n
  matMul (s2q pl.tr pl.tl pl.bl pl.br) (adj (s2q ⟨e, z⟩ ⟨z, z⟩ ⟨z, e⟩ ⟨e, e⟩))

/-- The bit of a rectified cell (R348). -/
def resampled (g : Grid) (a : Mat3) (x y : Nat) : Bool :=
  let q := applyMat a (Fp.ofNat x) (Fp.ofNat y)
  if Fp.isFinite q.x && Fp.isFinite q.y then
    (gridAt g (Fp.roundHalfUp q.x) (Fp.roundHalfUp q.y)).getD false
  else false

/-- The rectified matrix, row-major (R348). -/
def rectBits (g : Grid) (a : Mat3) (n : Nat) : List Bool :=
  (List.range n).flatMap fun y => (List.range n).map fun x => resampled g a x y

/-- A NaN whose sign and payload are free (U13, log 2). -/
def freeNan (n : Nat) : F64 := if Fp.isNan (Config.nanWord n) then Config.nanWord n else Fp.nan

/-- The matrix as it is stored: a NaN entry becomes a free NaN (U13, log 2). -/
def storedMat (n : Nat) (a : Mat3) : Mat3 :=
  Vector.ofFn fun k => if Fp.isNan a[k] then freeNan (n + k.val) else a[k]

/-- `XFORM` (R350). -/
def execXform (s : State) : Result :=
  match s.dimFault with
  | some e => s.raise e.1 e.2
  | none =>
    if !xformFinite s.pl then s.raise .range 0
    else
      match sideOf (rectSide s.pl) with
      | .error info => s.raise .range info
      | .ok n =>
        let a := xformMat s.pl n
        State.complete { s.storeRct 0 (rectBits s.bitGrid a n) with
          m := storedMat s.nans a, nans := s.nans + 9, rectN := BitVec.ofNat 32 n }

/-! The extractor. -/

/-- `RCT` as `RECT_N` says (R46). -/
def State.rctGrid (s : State) : Grid :=
  { w := s.rectN.toNat, h := s.rectN.toNat, cells := s.rctCells (s.rectN.toNat * s.rectN.toNat) }

/-- The nine scans: start cell, direction, weight (R353). -/
def radiusScans (n : Nat) : List (Int × Int × Int × Int × F64) :=
  let e : Int := (n : Int) - 1
  let one := Fp.ofNat 1
  [(0, 0, 1, 0, one), (0, 0, 0, 1, one), (0, 0, 1, 1, Fp.sqrtTwo),
   (e, 0, -1, 0, one), (e, 0, 0, 1, one), (e, 0, -1, 1, Fp.sqrtTwo),
   (0, e, 1, 0, one), (0, e, 0, -1, one), (0, e, 1, -1, Fp.sqrtTwo)]

/-- The 20% test of one run: `abs(w*num(c) - r*unit) <= 0.2 * (r*unit)` (R353). -/
def runOk (w unit : F64) (c : Nat) (r : F64) : Bool :=
  Fp.le (Fp.abs (Fp.sub (Fp.mul w (Fp.ofNat c)) (Fp.mul r unit))) (Fp.mul (Fp.ofRatio 1 5) (Fp.mul r unit))

/-- One scan outward from a finder centre (R353): the radius, if the slice validates. -/
def radiusOf (g : Grid) (sc : Int × Int × Int × Int × F64) : Option F64 :=
  match scanRuns g sc.2.2.1 sc.2.2.2.1 [true, false, true] false sc.1 sc.2.1 with
  | some [c0, c1, c2] =>
    let w := sc.2.2.2.2
    let rad := Fp.mul w (Fp.ofNat (c0 + c1 + c2))
    let unit := Fp.div rad (Fp.ofRatio 7 2)
    if runOk w unit c0 (Fp.ofRatio 3 2) && runOk w unit c1 (Fp.ofNat 1) && runOk w unit c2 (Fp.ofNat 1) then some rad
    else none
  | _ => none

/-- The yielded radii in scan order (R353, R354). -/
def radii (g : Grid) : List F64 := (radiusScans g.w).filterMap (radiusOf g)

/-- The scaled dimensions (R354). -/
structure Scale where
  fd : F64
  sc : F64
  u : F64
  sd : F64
  gd : F64

/-- The scale of a non-empty list of radii (R354). -/
def scaleOf (rs : List F64) : Scale :=
  let fd := Fp.div (rs.foldl Fp.add (Fp.ofNat 0)) (Fp.ofNat rs.length)
  let sc := Fp.div fd (Fp.ofNat 11)
  { fd := fd, sc := sc, u := Fp.mul (Fp.ofNat 2) sc, sd := Fp.mul (Fp.ofNat 22) sc, gd := Fp.mul (Fp.ofNat 6) sc }

/-- The cell count (R358); none outside [1, 64]. -/
def cellCount (n : Nat) (sc : Scale) : Option Nat :=
  let v := Fp.roundHalfUp
    (Fp.div (Fp.sub (Fp.add (Fp.div (Fp.ofNat n) sc.sc) (Fp.ofNat 6)) (Fp.ofNat 22)) (Fp.ofNat 28))
  if v < 1 ∨ 64 < v then none else some v.toNat

/-- The offset of cell number `i` from the matrix edge: `FDp + num(i)*(SDp + GDp)` (R359). -/
def cellOffset (sc : Scale) (i : Nat) : F64 := Fp.add sc.fd (Fp.mul (Fp.ofNat i) (Fp.add sc.sd sc.gd))

/-- Black cells among `k` cells from `(x, y)` on in steps of `(dx, dy)`; a cell outside the matrix is not black. -/
def countBlack (g : Grid) (x y dx dy : Int) (k : Nat) : Nat :=
  ((List.range k).filter fun i : Nat => gridAt g (x + (i : Int) * dx) (y + (i : Int) * dy) == some true).length

/-- The vertical-line test (R360). -/
def insideCol (g : Grid) (ya yb : Int) (x : Int) : Bool :=
  if x < 0 ∨ (g.w : Int) ≤ x ∨ yb ≤ ya then false
  else decide (yb - ya ≤ 4 * (countBlack g x ya 0 1 (yb - ya).toNat : Int))

/-- Walks outward from `x` by `d`, at most `k` columns, while the next column is inside (R362). -/
def walkOut (ins : Int → Bool) (d : Int) : Nat → Int → Int
  | 0, x => x
  | k + 1, x => if ins (x + d) then walkOut ins d k (x + d) else x

/-- Walks inward from `x` by `d`, at most `k` columns, until a column is inside (R362). -/
def walkIn (ins : Int → Bool) (d : Int) : Nat → Int → Int
  | 0, x => x
  | k + 1, x => if ins x then x else walkIn ins d k (x + d)

/-- A refined border: outward is the direction `d` (R362). -/
def refineBorder (ins : Int → Bool) (d : Int) (bound : Nat) (x : Int) : Int :=
  if ins x then walkOut ins d bound x else walkIn ins (-d) bound x

/-- The classes of a line (R363). -/
inductive LineClass where
  | invalid
  | zero
  | one
  deriving DecidableEq, Repr

/-- The class of row `y` between the borders `xl` and `xr`, inclusive (R363). -/
def lineClass (g : Grid) (xl xr y : Int) : LineClass :=
  let w := xr - xl + 1
  if w ≤ 0 then .invalid
  else if 2 * (countBlack g xl y 1 0 w.toNat : Int) < w then .invalid
  else
    let zl := xl + 9 * w / 22
    let wz := xl + 13 * w / 22 - 1 - zl + 1
    if 10 * (countBlack g zl y 1 0 wz.toNat : Int) < 9 * wz then .zero else .one

/-- What the cell scan keeps from row to row (R366). -/
structure ScanState where
  mask : GF
  nb : Nat
  state : Option LineClass
  len : Nat
  acted : Bool
  deriving DecidableEq, Repr

/-- The start of a cell scan: every position holds 1, no run yet (R366). -/
def ScanState.start : ScanState := { mask := 63#6, nb := 0, state := none, len := 0, acted := false }

/-- One row of the cell scan: the next state, and whether the scan stops (R364, R365, R366). -/
def scanRow (ut gt : F64) (sc : Scale) (ytop ybot y : Int) (st : LineClass) (c : ScanState) : ScanState × Bool :=
  let c := if c.state = some st then { c with len := c.len + 1 } else { c with state := some st, len := 1, acted := false }
  if c.acted then (c, false)
  else if st ≠ .invalid ∧ Fp.lt (Fp.mul ut sc.u) (Fp.ofNat c.len) then
    ({ c with mask := if st = .zero then c.mask &&& ~~~((1#6) <<< (5 - c.nb)) else c.mask, nb := c.nb + 1, acted := true }, false)
  else if st = .invalid ∧ Fp.lt (Fp.mul gt sc.gd) (Fp.ofNat c.len) then
    if ybot ≤ y then ({ c with acted := true }, true)
    else if ytop ≤ y then ({ c with nb := c.nb + 1, acted := true }, false)
    else ({ c with acted := true }, false)
  else (c, false)

/-- The rows of a cell scan, `fuel` of them left before the bottom of the matrix (R366). -/
def scanRows (g : Grid) (ut gt : F64) (sc : Scale) (xl xr ytop ybot : Int) : Nat → Int → ScanState → GF
  | 0, _, c => c.mask
  | fuel + 1, y, c =>
    if 6 ≤ c.nb then c.mask
    else
      let (c', stop) := scanRow ut gt sc ytop ybot y (lineClass g xl xr y) c
      if stop then c'.mask else scanRows g ut gt sc xl xr ytop ybot fuel (y + 1) c'

/-- The symbol of the cell `(col, row)` (R359 to R366). -/
def cellSymbol (g : Grid) (ut gt : F64) (sc : Scale) (col row : Nat) : GF :=
  let xl0 := Fp.roundHalfUp (cellOffset sc col)
  let xr0 := Fp.roundHalfUp (Fp.add (cellOffset sc col) sc.sd) - 1
  let ytop := Fp.roundHalfUp (cellOffset sc row)
  let ybot := ytop + Fp.roundHalfUp sc.sd
  let ins := insideCol g (max 0 ytop) (min g.h ybot)
  let bound := (Fp.floor (Fp.div sc.sd (Fp.ofNat 2))).toNat
  let xl := refineBorder ins (-1) bound xl0
  let xr := refineBorder ins 1 bound xr0
  let y0 := max 0 (ytop - Fp.roundHalfUp (Fp.div sc.gd (Fp.ofNat 2)))
  scanRows g ut gt sc xl xr ytop ybot ((g.h : Int) - y0).toNat y0 .start

/-- The symbol array of `cells x cells` cells, column by column (R361). -/
def cellSymbols (g : Grid) (ut gt : F64) (sc : Scale) (cells : Nat) : List GF :=
  (List.range cells).flatMap fun col => (List.range cells).map fun row => cellSymbol g ut gt sc col row

/-- The measured code: its scale and its side, or the detail of `E_INVALID_CODE` (R353 to R358). -/
def measure (g : Grid) : Except Nat (Scale × Nat) :=
  if radii g = [] then .error 6
  else
    match cellCount g.w (scaleOf (radii g)) with
    | none => .error 7
    | some cells => .ok (scaleOf (radii g), cells)

/-- `EXTRACT (xs0)` (R370). -/
def execExtract (xs0 : XReg) (s : State) : Result :=
  let dst := s.natX xs0
  let n := s.rectN.toNat
  if n = 0 ∨ Config.rmax < n then s.raise .range n
  else
    let g := s.rctGrid
    match measure g with
    | .error info => s.raise .invalidCode info
    | .ok (sc, cells) =>
      if !symFits dst (cells * cells) then s.raise .addr dst
      else
        let data := cellSymbols g Config.unitDimThreshold Config.gapDimThreshold sc cells
        State.complete { s.storeSym dst (data.map gfByte) with
          codeSize := BitVec.ofNat 32 cells, codeVer := (data.headD 0).setWidth 32 }

end Sys2Proof.Machine
end

