-- ==== Sys2Proof/Machine/GfScalar.lean ====
section
/-! DEFINITION. Field scalar commands (R140 to R145): both `gf` checks in order, then the zero check. -/

namespace Sys2Proof.Machine

/-- `GFADD xd, xs1, xs2` (R140). -/
def execGfadd (xd xs1 xs2 : XReg) (s : State) : Result :=
  let u := s.natX xs1
  let v := s.natX xs2
  if !isGF u then s.raise .range u
  else if !isGF v then s.raise .range v
  else (s.setX xd (gfScalar (scalarGF (s.getX xs1) ^^^ scalarGF (s.getX xs2)))).complete

/-- `GFMUL xd, xs1, xs2` (R141). -/
def execGfmul (xd xs1 xs2 : XReg) (s : State) : Result :=
  let u := s.natX xs1
  let v := s.natX xs2
  if !isGF u then s.raise .range u
  else if !isGF v then s.raise .range v
  else (s.setX xd (gfScalar (gmul (scalarGF (s.getX xs1)) (scalarGF (s.getX xs2))))).complete

/-- `GFINV xd, xs1` (R142). -/
def execGfinv (xd xs1 : XReg) (s : State) : Result :=
  let u := s.natX xs1
  if !isGF u then s.raise .range u
  else if u = 0 then s.raise .gfZero 0
  else (s.setX xd (gfScalar (ginv (scalarGF (s.getX xs1))))).complete

/-- `GFDIV xd, xs1, xs2` (R143). -/
def execGfdiv (xd xs1 xs2 : XReg) (s : State) : Result :=
  let u := s.natX xs1
  let v := s.natX xs2
  if !isGF u then s.raise .range u
  else if !isGF v then s.raise .range v
  else if v = 0 then s.raise .gfZero 0
  else (s.setX xd (gfScalar (gdiv (scalarGF (s.getX xs1)) (scalarGF (s.getX xs2))))).complete

/-- `GFEXP xd, xs1` (R144). -/
def execGfexp (xd xs1 : XReg) (s : State) : Result :=
  let k := s.natX xs1
  if 63 < k then s.raise .range k
  else (s.setX xd (gfScalar (gexp k))).complete

/-- `GFLOG xd, xs1` (R145). -/
def execGflog (xd xs1 : XReg) (s : State) : Result :=
  let u := s.natX xs1
  if !isGF u then s.raise .range u
  else
    match glog (scalarGF (s.getX xs1)) with
    | none => s.raise .gfZero 0
    | some l => (s.setX xd (toScalar l)).complete

end Sys2Proof.Machine
end

