-- ==== Sys2Proof/Machine/Polynomial.lean ====
section
/-! DEFINITION. Field-polynomial commands (R165 to R179, R185). -/

namespace Sys2Proof.Machine

/-- `PZERO pd` (R165). -/
def execPzero (pd : PReg) (s : State) : Result := (s.setP pd [0]).complete

/-- `PONE pd` (R166). -/
def execPone (pd : PReg) (s : State) : Result := (s.setP pd [1]).complete

/-- `PMONO pd, xs1, xs2` (R167). -/
def execPmono (pd : PReg) (xs1 xs2 : XReg) (s : State) : Result :=
  let dg := s.natX xs1
  let c := s.natX xs2
  if !isGF c then s.raise .range c
  else if c ≠ 0 ∧ Config.pmax < dg + 1 then s.raise .overflow (dg + 1)
  else (s.setP pd (mono dg (scalarGF (s.getX xs2)))).complete

/-- `PLD pd, (xs1), xs2` (R168). -/
def execPld (pd : PReg) (xs1 xs2 : XReg) (s : State) : Result :=
  let addr := s.natX xs1
  let n := s.natX xs2
  if n = 0 ∨ Config.pmax < n then s.raise .range n
  else if !symFits addr n then s.raise .addr addr
  else
    match firstBad (s.symBytes addr n) with
    | some v => s.raise .range v.toNat
    | none => (s.setP pd ((s.symBytes addr n).map byteGF)).complete

/-- `PST ps, (xs1)` (R169). -/
def execPst (ps : PReg) (xs1 : XReg) (s : State) : Result :=
  let addr := s.natX xs1
  if !symFits addr (s.getP ps).length then s.raise .addr addr
  else (s.storeSym addr ((s.getP ps).map gfByte)).complete

/-- `PDEG xd, ps1` (R170). -/
def execPdeg (xd : XReg) (ps1 : PReg) (s : State) : Result :=
  (s.setX xd (toScalar (deg (s.getP ps1)))).complete

/-- `PCOEF xd, ps1, xs2` (R171): a degree above the polynomial's reads 0. -/
def execPcoef (xd : XReg) (ps1 : PReg) (xs2 : XReg) (s : State) : Result :=
  (s.setX xd (gfScalar (coef (s.getP ps1) (s.natX xs2)))).complete

/-- `PCIDX xd, ps1, xs2` (R172). -/
def execPcidx (xd : XReg) (ps1 : PReg) (xs2 : XReg) (s : State) : Result :=
  match (s.getP ps1)[s.natX xs2]? with
  | none => s.raise .range (s.natX xs2)
  | some v => (s.setX xd (gfScalar v)).complete

/-- `PEQ xd, ps1, ps2` (R173). -/
def execPeq (xd : XReg) (ps1 ps2 : PReg) (s : State) : Result :=
  (s.setX xd (if s.getP ps1 = s.getP ps2 then 1#16 else 0#16)).complete

/-- `PISZ xd, ps1` (R174). -/
def execPisz (xd : XReg) (ps1 : PReg) (s : State) : Result :=
  (s.setX xd (if polyIsZero (s.getP ps1) then 1#16 else 0#16)).complete

/-- `PEVAL xd, ps1, xs2` (R175). -/
def execPeval (xd : XReg) (ps1 : PReg) (xs2 : XReg) (s : State) : Result :=
  let v := s.natX xs2
  if !isGF v then s.raise .range v
  else (s.setX xd (gfScalar (ev (s.getP ps1) (scalarGF (s.getX xs2))))).complete

/-- `PADD pd, ps1, ps2` (R176): no fault, the result is never longer than the longer source. -/
def execPadd (pd ps1 ps2 : PReg) (s : State) : Result := (s.setP pd (padd (s.getP ps1) (s.getP ps2))).complete

/-- `PMULS pd, ps1, xs2` (R177). -/
def execPmuls (pd ps1 : PReg) (xs2 : XReg) (s : State) : Result :=
  let v := s.natX xs2
  if !isGF v then s.raise .range v
  else (s.setP pd (pmuls (s.getP ps1) (scalarGF (s.getX xs2)))).complete

/-- `PMUL pd, ps1, ps2` (R178): the length is tested before the product is formed. -/
def execPmul (pd ps1 ps2 : PReg) (s : State) : Result :=
  let a := s.getP ps1
  let b := s.getP ps2
  if !polyIsZero a && !polyIsZero b && decide (Config.pmax < a.length + b.length - 1) then
    s.raise .overflow (a.length + b.length - 1)
  else (s.setP pd (pmul a b)).complete

/-- `PDIV pq, pr, ps1, ps2` (R179, R185): the word recorded is the command's own (D8: one word per command). -/
def execPdiv (pq ps1 ps2 pr : PReg) (s : State) : Result :=
  if pq = pr then s.raise .illegal (encode (.pdiv pq ps1 ps2 pr)).toNat
  else if polyIsZero (s.getP ps2) then s.raise .polyDivZero 0
  else
    let (q, r) := pdivmod (s.getP ps1) (s.getP ps2)
    ((s.setP pq q).setP pr r).complete

end Sys2Proof.Machine
end

