-- ==== Sys2Proof/Machine/Renderer.lean ====
section
/-! DEFINITION. Renderer command (R260 to R272). All quantities are integers. -/

namespace Sys2Proof.Machine

/-- The base image dimension of a code of side `side` (R261). -/
def baseDim (side : Nat) : Nat := 28 * side + 82

/-- The distance of two pixel indices. -/
def absDiff (a b : Nat) : Nat := (a - b) + (b - a)

/-- `q = 49 * ((x-cx)^2 + (y-cy)^2)` (R265). -/
def ringDist (cx cy x y : Nat) : Nat := 49 * (absDiff x cx * absDiff x cx + absDiff y cy * absDiff y cy)

/-- A pixel of a finder pattern is black (R265). -/
def finderBlack (sc cx cy x y : Nat) : Bool :=
  let q := ringDist cx cy x y
  decide (q ≤ (33 * sc) ^ 2) || (decide ((55 * sc) ^ 2 < q) && decide (q ≤ (77 * sc) ^ 2))

/-- A pixel of the alignment pattern is black (R266). -/
def alignBlack (sc cx cy x y : Nat) : Bool :=
  let q := ringDist cx cy x y
  decide ((33 * sc) ^ 2 < q) && decide (q ≤ (55 * sc) ^ 2)

/-- A pixel at offset `(ox, oy)` inside the glyph of value `v` is black: bar `b` from the top carries bit `5 - b`,
and a 0 bit leaves the hole `[9s, 13s)` white (R269). -/
def glyphBlack (sc : Nat) (v : GF) (ox oy : Nat) : Bool :=
  decide (oy % (4 * sc) < 2 * sc) &&
    (v.getLsbD (5 - oy / (4 * sc)) || !(decide (9 * sc ≤ ox) && decide (ox < 13 * sc)))

/-- A pixel of the symbol grid is black: the symbol of column `c`, row `r` is `data[c*S + r]`, its corner at
`p + (44 + 28c)s`, `p + (44 + 28r)s`, its side `22s` (R268). -/
def gridBlack (side sc pad : Nat) (data : Array GF) (x y : Nat) : Bool :=
  let g := pad + 44 * sc
  let c := (x - g) / (28 * sc)
  let r := (y - g) / (28 * sc)
  let ox := (x - g) % (28 * sc)
  let oy := (y - g) % (28 * sc)
  decide (g ≤ x) && decide (g ≤ y) && decide (c < side) && decide (r < side) &&
    decide (ox < 22 * sc) && decide (oy < 22 * sc) && glyphBlack sc (data.getD (c * side + r) 0) ox oy

/-- A pixel of the drawing is black (R264 to R269); the shapes do not overlap. -/
def pixelBlack (side sc pad : Nat) (data : Array GF) (x y : Nat) : Bool :=
  let lo := pad + 33 * sc
  let hi := pad + (baseDim side - 33) * sc
  finderBlack sc lo lo x y || finderBlack sc hi lo x y || finderBlack sc lo hi x y || alignBlack sc hi hi x y ||
    gridBlack side sc pad data x y

/-- The bits of the drawing, row-major, for resolution `r` (R263). -/
def renderBits (side r : Nat) (data : Array GF) : List Bool :=
  let sc := r / baseDim side
  let pad := (r - baseDim side * sc) / 2
  (List.range r).flatMap fun y => (List.range r).map fun x => pixelBlack side sc pad data x y

/-- One pixel as RGBA bytes (R270). -/
def rgbaOf (black : Bool) : List Byte := if black then [0, 0, 0, 255] else [255, 255, 255, 255]

/-- `RENDER (xs1)` (R272). -/
def execRender (xs1 : XReg) (s : State) : Result :=
  let src := s.natX xs1
  let side := s.codeSize.toNat
  let r := s.res.toNat
  if side = 0 ∨ 64 < side then s.raise .range side
  else if Config.wmax < r ∨ Config.hmax < r then s.raise .range r
  else if !symFits src (side * side) then s.raise .addr src
  else
    match firstBad (s.symBytes src (side * side)) with
    | some v => s.raise .range v.toNat
    | none =>
      if r / baseDim side = 0 then s.raise .resSmall (baseDim side)
      else
        let bits := renderBits side r ((s.symBytes src (side * side)).map byteGF).toArray
        State.complete { (s.storeBit 0 bits).storeImg 0 (bits.flatMap rgbaOf) with imgW := s.res, imgH := s.res }

end Sys2Proof.Machine
end

