-- ==== Sys2Proof/Machine/Dispatch.lean ====
section
/-! DEFINITION. The execution of a decoded command (R120): one arm per command, its meaning in the family's file. -/

namespace Sys2Proof.Machine

def exec (i : Instr) (s : State) : Host.Outcome State Fault Refusal :=
  match i with
  | .halt => Sys2Proof.Machine.execHalt s
  | .li xd imm => Sys2Proof.Machine.execLi xd imm s
  | .lds xd xs1 => Sys2Proof.Machine.execLds xd xs1 s
  | .sts xs1 xs2 => Sys2Proof.Machine.execSts xs1 xs2 s
  | .gfadd xd xs1 xs2 => Sys2Proof.Machine.execGfadd xd xs1 xs2 s
  | .gfmul xd xs1 xs2 => Sys2Proof.Machine.execGfmul xd xs1 xs2 s
  | .gfinv xd xs1 => Sys2Proof.Machine.execGfinv xd xs1 s
  | .gfdiv xd xs1 xs2 => Sys2Proof.Machine.execGfdiv xd xs1 xs2 s
  | .gfexp xd xs1 => Sys2Proof.Machine.execGfexp xd xs1 s
  | .gflog xd xs1 => Sys2Proof.Machine.execGflog xd xs1 s
  | .pzero pd => Sys2Proof.Machine.execPzero pd s
  | .pone pd => Sys2Proof.Machine.execPone pd s
  | .pmono pd xs1 xs2 => Sys2Proof.Machine.execPmono pd xs1 xs2 s
  | .pld pd xs1 xs2 => Sys2Proof.Machine.execPld pd xs1 xs2 s
  | .pst ps xs1 => Sys2Proof.Machine.execPst ps xs1 s
  | .pdeg xd ps1 => Sys2Proof.Machine.execPdeg xd ps1 s
  | .pcoef xd ps1 xs2 => Sys2Proof.Machine.execPcoef xd ps1 xs2 s
  | .pcidx xd ps1 xs2 => Sys2Proof.Machine.execPcidx xd ps1 xs2 s
  | .peq xd ps1 ps2 => Sys2Proof.Machine.execPeq xd ps1 ps2 s
  | .pisz xd ps1 => Sys2Proof.Machine.execPisz xd ps1 s
  | .peval xd ps1 xs2 => Sys2Proof.Machine.execPeval xd ps1 xs2 s
  | .padd pd ps1 ps2 => Sys2Proof.Machine.execPadd pd ps1 ps2 s
  | .pmuls pd ps1 xs2 => Sys2Proof.Machine.execPmuls pd ps1 xs2 s
  | .pmul pd ps1 ps2 => Sys2Proof.Machine.execPmul pd ps1 ps2 s
  | .pdiv pq ps1 ps2 pr => Sys2Proof.Machine.execPdiv pq ps1 ps2 pr s
  | .rsgen pd xs1 => Sys2Proof.Machine.execRsgen pd xs1 s
  | .rsenc xs0 xs1 xs2 xs3 => Sys2Proof.Machine.execRsenc xs0 xs1 xs2 xs3 s
  | .rssyn pd xs1 xs2 xs3 => Sys2Proof.Machine.execRssyn pd xs1 xs2 xs3 s
  | .rskey psigma ps1 xs2 pomega => Sys2Proof.Machine.execRskey psigma ps1 xs2 pomega s
  | .rsroot xd ps1 xs2 => Sys2Proof.Machine.execRsroot xd ps1 xs2 s
  | .rsmag xs0 ps1 xs2 xs3 => Sys2Proof.Machine.execRsmag xs0 ps1 xs2 xs3 s
  | .rsdec xs0 xs1 xs2 xs3 => Sys2Proof.Machine.execRsdec xs0 xs1 xs2 xs3 s
  | .cenc xs0 xs1 xs2 => Sys2Proof.Machine.execCenc xs0 xs1 xs2 s
  | .cdec xs0 xs1 xs2 => Sys2Proof.Machine.execCdec xs0 xs1 xs2 s
  | .luma => Sys2Proof.Machine.execLuma s
  | .thresh => Sys2Proof.Machine.execThresh s
  | .binz => Sys2Proof.Machine.execBinz s
  | .binarize => Sys2Proof.Machine.execBinarize s
  | .locf => Sys2Proof.Machine.execLocf s
  | .loca => Sys2Proof.Machine.execLoca s
  | .locate => Sys2Proof.Machine.execLocate s
  | .xform => Sys2Proof.Machine.execXform s
  | .extract xs0 => Sys2Proof.Machine.execExtract xs0 s
  | .render xs1 => Sys2Proof.Machine.execRender xs1 s

end Sys2Proof.Machine
end

