-- ==== Sys2Proof/Machine/HostPort.lean ====
section
/-! DEFINITION. The host (R30, R32, R75): its writes, its starts and clears, its reset, and its reads. -/

namespace Sys2Proof.Machine

/-! The CSRs by number (R30). -/

/-- The widened value of a 32-bit CSR. -/
def wide (w : Word) : BitVec 64 := w.setWidth 64

/-- The value of the CSR with a number; a reserved number reads 0 (R30, U4). -/
def State.readCsr (s : State) (n : Nat) : BitVec 64 :=
  match n with
  | 0x00 => wide Config.idWord
  | 0x01 => wide s.ctrl
  | 0x02 => wide s.status
  | 0x03 => wide s.cp
  | 0x04 => wide s.err
  | 0x05 => wide s.epc
  | 0x06 => wide s.einfo
  | 0x08 => wide s.imgW
  | 0x09 => wide s.imgH
  | 0x0A => wide s.res
  | 0x0B => wide s.codeSize
  | 0x0C => wide s.codeVer
  | 0x0D => wide s.par
  | 0x0E => wide s.plen
  | 0x0F => wide s.ncorr
  | 0x10 => wide s.rectN
  | 0x20 => s.eclvl
  | 0x21 => s.pl.tl.x
  | 0x22 => s.pl.tl.y
  | 0x23 => s.pl.tr.x
  | 0x24 => s.pl.tr.y
  | 0x25 => s.pl.bl.x
  | 0x26 => s.pl.bl.y
  | 0x27 => s.pl.br.x
  | 0x28 => s.pl.br.y
  | 0x29 => s.pl.fsize
  | 0x2A => s.pl.asize
  | 0x30 => s.m[0]
  | 0x31 => s.m[1]
  | 0x32 => s.m[2]
  | 0x33 => s.m[3]
  | 0x34 => s.m[4]
  | 0x35 => s.m[5]
  | 0x36 => s.m[6]
  | 0x37 => s.m[7]
  | 0x38 => s.m[8]
  | _ => 0#64

/-- What `CTRL` keeps of a written value: bit 8 alone (R32). -/
def ctrlKept (v : Word) : Word := v &&& 0x100#32

/-- A host write of `CTRL` (R32): `INV` is kept, then `CLR`, then `START`. -/
def State.writeCtrl (s : State) (v : Word) : State :=
  let s1 : State := { s with ctrl := ctrlKept v }
  let s2 := if v.getLsbD 1 then s1.cleared else s1
  if v.getLsbD 0 then s2.started else s2

/-- A host write of the CSR with a number (R30): a read-only CSR (V84, log 16) and a reserved number ignore it. -/
def State.writeCsr (s : State) (n : Nat) (v : BitVec 64) : State :=
  let w : Word := v.setWidth 32
  match n with
  | 0x01 => s.writeCtrl w
  | 0x08 => { s with imgW := w }
  | 0x09 => { s with imgH := w }
  | 0x0A => { s with res := w }
  | 0x0B => { s with codeSize := w }
  | 0x0C => { s with codeVer := w }
  | 0x0D => { s with par := w }
  | 0x0E => { s with plen := w }
  | 0x0F => { s with ncorr := w }
  | 0x10 => { s with rectN := w }
  | 0x20 => { s with eclvl := v }
  | 0x21 => { s with pl := { s.pl with tl := { s.pl.tl with x := v } } }
  | 0x22 => { s with pl := { s.pl with tl := { s.pl.tl with y := v } } }
  | 0x23 => { s with pl := { s.pl with tr := { s.pl.tr with x := v } } }
  | 0x24 => { s with pl := { s.pl with tr := { s.pl.tr with y := v } } }
  | 0x25 => { s with pl := { s.pl with bl := { s.pl.bl with x := v } } }
  | 0x26 => { s with pl := { s.pl with bl := { s.pl.bl with y := v } } }
  | 0x27 => { s with pl := { s.pl with br := { s.pl.br with x := v } } }
  | 0x28 => { s with pl := { s.pl with br := { s.pl.br with y := v } } }
  | 0x29 => { s with pl := { s.pl with fsize := v } }
  | 0x2A => { s with pl := { s.pl with asize := v } }
  | _ => s

/-! The memories (R40 to R47). -/

/-- The number of cells of a memory. -/
def spaceSize : Space → Nat
  | .cmd => Config.cmdSize
  | .sym => Config.symSize
  | .img => 4 * (Config.wmax * Config.hmax)
  | .lum => Config.wmax * Config.hmax
  | .thr => (Config.wmax - 79) * (Config.hmax - 79)
  | .bit => Config.wmax * Config.hmax
  | .rct => Config.rmax * Config.rmax

/-- A host write of cell `i`, which `t` performs, if the memory has that cell (log 8). -/
def hostStore (sp : Space) (i : Nat) (t : State) : Result :=
  if i < spaceSize sp then .next t else .fault (.noSuchCell sp i)

/-- Reset (R421, R422): every register and CSR at its reset value, every memory unspecified. The host and the
model's counters go on (log 6, log 7). -/
def State.hostReset (s : State) : State :=
  { State.reset with resets := s.resets + 1, nans := s.nans, hostq := s.hostq }

/-- One move of the host (R75). While the engine is busy the only moves are the poll and the reset (U12, log 9). -/
def State.hostAct (s : State) (h : HostMove) : Result :=
  match h with
  | .poll => .next s
  | .reset => .next s.hostReset
  | .writeCsr n v => if busyBit s.status then .refused .hostBusy else .next (s.writeCsr n v)
  | .writeCmd i v => if busyBit s.status then .refused .hostBusy else hostStore .cmd i (s.storeCmd i [v])
  | .writeSym i v => if busyBit s.status then .refused .hostBusy else hostStore .sym i (s.storeSym i [v])
  | .writeImg i v => if busyBit s.status then .refused .hostBusy else hostStore .img i (s.storeImg i [v])
  | .writeLum i v => if busyBit s.status then .refused .hostBusy else hostStore .lum i (s.storeLum i [v])
  | .writeThr i v => if busyBit s.status then .refused .hostBusy else hostStore .thr i (s.storeThr i [v])
  | .writeBit i v => if busyBit s.status then .refused .hostBusy else hostStore .bit i (s.storeBit i [v])
  | .writeRct i v => if busyBit s.status then .refused .hostBusy else hostStore .rct i (s.storeRct i [v])

/-! Host reads (R47, R75, R76): functions of the state. While the engine is busy only `STATUS` answers (U12). R75
gives the host no read of `CMD`. -/

/-- What a host read answers, if the engine is idle and the memory has that cell. -/
def State.hostReadCell {α : Type} (s : State) (sp : Space) (i : Nat) (v : α) : Option α :=
  if !busyBit s.status && decide (i < spaceSize sp) then some v else none

def State.hostReadSym (s : State) (i : Nat) : Option Byte := s.hostReadCell .sym i (s.symByte i)
def State.hostReadImg (s : State) (i : Nat) : Option Byte := s.hostReadCell .img i (s.imgByte i)
def State.hostReadLum (s : State) (i : Nat) : Option Byte := s.hostReadCell .lum i (s.lumByte i)
def State.hostReadThr (s : State) (i : Nat) : Option F64 := s.hostReadCell .thr i (s.thrCell i)
def State.hostReadBit (s : State) (i : Nat) : Option Bool := s.hostReadCell .bit i (s.bitCell i)
def State.hostReadRct (s : State) (i : Nat) : Option Bool := s.hostReadCell .rct i (s.rctCell i)

/-- A host read of a CSR: any while idle, `STATUS` alone while busy (R75). -/
def State.hostReadCsr (s : State) (n : Nat) : Option (BitVec 64) :=
  if busyBit s.status && n != 0x02 then none else some (s.readCsr n)

end Sys2Proof.Machine
end

