-- ==== Sys2Proof/Machine/Engine.lean ====
section
/-! DEFINITION. The two agents' turns (R20, R70, R120): one command of the busy engine, one move of the host. -/

namespace Sys2Proof.Machine

/-- One step of the busy engine (R120): fetch, decode, execute; a fetch that fails takes its fault (R28, R99). -/
def engineStep (s : State) : Result :=
  match s.fetch with
  | .error e => s.raise e.1 e.2
  | .ok i => exec i s

/-- A turn while the engine is busy: a reset the host applies now comes first (R422); a poll of `STATUS` passes
beside the command; every other host move waits for the end of the run (R75, log 7, log 9). -/
def busyTurn (s : State) : Result :=
  match s.hostq with
  | .reset :: rest => ({ s with hostq := rest } : State).hostAct .reset
  | .poll :: rest => engineStep { s with hostq := rest }
  | _ => engineStep s

/-- A turn while the engine is idle: the host's next move, if it has one (R20, R75, log 11). -/
def idleTurn (s : State) : Result :=
  match s.hostq with
  | [] => .next s
  | h :: rest => ({ s with hostq := rest } : State).hostAct h

end Sys2Proof.Machine
end

