-- ==== Sys2Proof/Machine/Step.lean ====
section
/-! DEFINITION. One step of the machine, and the placing of one word where the next step runs it. -/

namespace Sys2Proof.Machine

/-- One step: the engine's while it is busy, else the host's (R20, R70). -/
def step (s : State) : Host.Outcome State Fault Refusal :=
  if busyBit s.status then busyTurn s else idleTurn s

/-- `s` with the word of a table row where the next step fetches it, the engine busy (log 10). -/
def State.withFetchWord (s : State) (nbits w : Nat) : State := s.placeWord (BitVec.ofNat 32 (w % 2 ^ nbits))

end Sys2Proof.Machine
end

