-- ==== Sys2Proof/Laws/Decode.lean ====
section
/-! SUPPORT. A packed word as a number, its fields, and the slots of registers. -/

namespace Sys2Proof

theorem toNat_append_add {m n : Nat} (x : BitVec m) (y : BitVec n) : (x ++ y).toNat = x.toNat * 2 ^ n + y.toNat := by
  rw [BitVec.toNat_append, ← Nat.shiftLeft_add_eq_or_of_lt y.isLt, Nat.shiftLeft_eq]

theorem packR_toNat (opc : BitVec 8) (a b c d : BitVec 4) : (packR opc a b c d).toNat =
    opc.toNat + 256 * a.toNat + 4096 * b.toNat + 65536 * c.toNat + 1048576 * d.toNat := by
  unfold packR
  repeat rw [toNat_append_add]
  simp; omega

theorem packI_toNat (opc : BitVec 8) (a : BitVec 4) (imm : BitVec 16) : (packI opc a imm).toNat =
    opc.toNat + 256 * a.toNat + 65536 * imm.toNat := by
  unfold packI
  repeat rw [toNat_append_add]
  simp; omega

/-- A field of a word as a number. -/
theorem field_toNat (w : Word) (s n : Nat) : (w.extractLsb' s n).toNat = w.toNat / 2 ^ s % 2 ^ n := by
  simp [Nat.shiftRight_eq_div_pow]

section packR
variable (opc : BitVec 8) (a b c d : BitVec 4)

@[simp] theorem opcOf_packR : opcOf (packR opc a b c d) = opc := by
  apply BitVec.eq_of_toNat_eq; rw [opcOf, field_toNat, packR_toNat]; omega
@[simp] theorem slotA_packR : slotA (packR opc a b c d) = a := by
  apply BitVec.eq_of_toNat_eq; rw [slotA, field_toNat, packR_toNat]; omega
@[simp] theorem slotB_packR : slotB (packR opc a b c d) = b := by
  apply BitVec.eq_of_toNat_eq; rw [slotB, field_toNat, packR_toNat]; omega
@[simp] theorem slotC_packR : slotC (packR opc a b c d) = c := by
  apply BitVec.eq_of_toNat_eq; rw [slotC, field_toNat, packR_toNat]; omega
@[simp] theorem slotD_packR : slotD (packR opc a b c d) = d := by
  apply BitVec.eq_of_toNat_eq; rw [slotD, field_toNat, packR_toNat]; omega
@[simp] theorem zeroField_packR : zeroField (packR opc a b c d) = 0#8 := by
  apply BitVec.eq_of_toNat_eq; rw [zeroField, field_toNat, packR_toNat, BitVec.toNat_ofNat]; omega

end packR

section packI
variable (opc : BitVec 8) (a : BitVec 4) (imm : BitVec 16)

@[simp] theorem opcOf_packI : opcOf (packI opc a imm) = opc := by
  apply BitVec.eq_of_toNat_eq; rw [opcOf, field_toNat, packI_toNat]; omega
@[simp] theorem slotA_packI : slotA (packI opc a imm) = a := by
  apply BitVec.eq_of_toNat_eq; rw [slotA, field_toNat, packI_toNat]; omega
@[simp] theorem slotB_packI : slotB (packI opc a imm) = 0#4 := by
  apply BitVec.eq_of_toNat_eq; rw [slotB, field_toNat, packI_toNat, BitVec.toNat_ofNat]; omega
@[simp] theorem immField_packI : immField (packI opc a imm) = imm := by
  apply BitVec.eq_of_toNat_eq; rw [immField, field_toNat, packI_toNat]; omega

end packI

@[simp] theorem xregOf_xslot (r : XReg) : xregOf (xslot r) = r := by
  revert r; decide
@[simp] theorem pregOf_pslot (r : PReg) : pregOf (pslot r) = r := by
  revert r; decide
@[simp] theorem polyOk_pslot (r : PReg) : polyOk .p (pslot r) = true := by
  revert r; decide

/-- A word whose fields are known is the packed word. -/
theorem packR_fields (w : Word) (hz : zeroField w = 0#8) :
    packR (opcOf w) (slotA w) (slotB w) (slotC w) (slotD w) = w := by
  apply BitVec.eq_of_toNat_eq
  have h := congrArg BitVec.toNat hz
  have hw := w.isLt
  rw [zeroField, field_toNat, BitVec.toNat_ofNat] at h
  rw [packR_toNat, opcOf, slotA, slotB, slotC, slotD, field_toNat, field_toNat, field_toNat, field_toNat, field_toNat]
  omega

theorem packI_fields (w : Word) (hb : slotB w = 0#4) : packI (opcOf w) (slotA w) (immField w) = w := by
  apply BitVec.eq_of_toNat_eq
  have h := congrArg BitVec.toNat hb
  have hw := w.isLt
  rw [slotB, field_toNat, BitVec.toNat_ofNat] at h
  rw [packI_toNat, opcOf, slotA, immField, field_toNat, field_toNat, field_toNat]
  omega

theorem xslot_xregOf (b : BitVec 4) : xslot (xregOf b) = b := by
  revert b; decide
theorem pslot_pregOf (b : BitVec 4) (h : polyOk .p b = true) : pslot (pregOf b) = b := by
  revert b; decide

end Sys2Proof
end

