-- ==== Sys2Proof/Laws/PerInstr.lean ====
section
/-! SUPPORT. The family `Table`, a statement for every command as syntax: its word, under the mask of its row of
spec/opcode_table.json, is the row's match. -/

namespace Sys2Proof.Laws

/-- The mask and the match of a command's row. -/
def tableRow : Instr → Word × Word
  | .halt => (0xFFFFFFFF#32, 0x00000000#32)
  | .li .. => (0x0000F0FF#32, 0x00000001#32)
  | .lds .. => (0xFFFF00FF#32, 0x00000002#32)
  | .sts .. => (0xFFF00FFF#32, 0x00000003#32)
  | .gfadd .. => (0xFFF000FF#32, 0x00000010#32)
  | .gfmul .. => (0xFFF000FF#32, 0x00000011#32)
  | .gfinv .. => (0xFFFF00FF#32, 0x00000012#32)
  | .gfdiv .. => (0xFFF000FF#32, 0x00000013#32)
  | .gfexp .. => (0xFFFF00FF#32, 0x00000014#32)
  | .gflog .. => (0xFFFF00FF#32, 0x00000015#32)
  | .pzero .. => (0xFFFFF8FF#32, 0x00000020#32)
  | .pone .. => (0xFFFFF8FF#32, 0x00000021#32)
  | .pmono .. => (0xFFF008FF#32, 0x00000022#32)
  | .pld .. => (0xFFF008FF#32, 0x00000023#32)
  | .pst .. => (0xFFFF08FF#32, 0x00000024#32)
  | .pdeg .. => (0xFFFF80FF#32, 0x00000025#32)
  | .pcoef .. => (0xFFF080FF#32, 0x00000026#32)
  | .pcidx .. => (0xFFF080FF#32, 0x00000027#32)
  | .peq .. => (0xFFF880FF#32, 0x00000028#32)
  | .pisz .. => (0xFFFF80FF#32, 0x00000029#32)
  | .peval .. => (0xFFF080FF#32, 0x0000002A#32)
  | .padd .. => (0xFFF888FF#32, 0x0000002B#32)
  | .pmuls .. => (0xFFF088FF#32, 0x0000002C#32)
  | .pmul .. => (0xFFF888FF#32, 0x0000002D#32)
  | .pdiv .. => (0xFF8888FF#32, 0x0000002E#32)
  | .rsgen .. => (0xFFFF08FF#32, 0x00000030#32)
  | .rsenc .. => (0xFF0000FF#32, 0x00000031#32)
  | .rssyn .. => (0xFF0008FF#32, 0x00000032#32)
  | .rskey .. => (0xFF8088FF#32, 0x00000033#32)
  | .rsroot .. => (0xFFF080FF#32, 0x00000034#32)
  | .rsmag .. => (0xFF0080FF#32, 0x00000035#32)
  | .rsdec .. => (0xFF0000FF#32, 0x00000036#32)
  | .cenc .. => (0xFFF000FF#32, 0x00000038#32)
  | .cdec .. => (0xFFF000FF#32, 0x00000039#32)
  | .luma => (0xFFFFFFFF#32, 0x00000040#32)
  | .thresh => (0xFFFFFFFF#32, 0x00000041#32)
  | .binz => (0xFFFFFFFF#32, 0x00000042#32)
  | .binarize => (0xFFFFFFFF#32, 0x00000043#32)
  | .locf => (0xFFFFFFFF#32, 0x00000048#32)
  | .loca => (0xFFFFFFFF#32, 0x00000049#32)
  | .locate => (0xFFFFFFFF#32, 0x0000004A#32)
  | .xform => (0xFFFFFFFF#32, 0x00000050#32)
  | .extract .. => (0xFFFFF0FF#32, 0x00000051#32)
  | .render .. => (0xFFFF0FFF#32, 0x00000058#32)

/-- The command's word is a legal word of its row (R98). -/
def Table.Statement (i : Instr) : Prop := encode i &&& (tableRow i).1 = (tableRow i).2

/-- The mask of a format R row, from what it asks of each slot. -/
def maskR (ma mb mc md : BitVec 4) : Word := 0xFF#8 ++ md ++ mc ++ mb ++ ma ++ 0xFF#8

theorem row_packR {m v : Word} {opc : BitVec 8} {a b c d : BitVec 4} (ma mb mc md : BitVec 4)
    (hm : m = maskR ma mb mc md) (hv : v = packR opc 0 0 0 0) (ha : a &&& ma = 0) (hb : b &&& mb = 0)
    (hc : c &&& mc = 0) (hd : d &&& md = 0) : packR opc a b c d &&& m = v := by
  subst hm hv
  have ho : opc &&& 0xFF#8 = opc := BitVec.and_allOnes
  unfold packR maskR
  repeat rw [BitVec.and_append]
  rw [ho, ha, hb, hc, hd]
  rfl

theorem row_packI {opc : BitVec 8} {a : BitVec 4} {imm : BitVec 16} (v : Word) (hv : v = packI opc 0 0) :
    packI opc a imm &&& 0x0000F0FF#32 = v := by
  subst hv
  have hm : (0x0000F0FF#32 : Word) = 0#16 ++ 0xF#4 ++ 0#4 ++ 0xFF#8 := by decide
  have ho : opc &&& 0xFF#8 = opc := BitVec.and_allOnes
  rw [hm]
  unfold packI
  repeat rw [BitVec.and_append]
  rw [ho]
  simp

theorem xslot_and (r : XReg) : xslot r &&& 0 = 0 := by simp
theorem pslot_and (r : PReg) : pslot r &&& 8 = 0 := by revert r; decide

theorem Table.halt : Table.Statement (.halt) :=
  row_packR 15 15 15 15 rfl rfl (by decide) (by decide) (by decide) (by decide)
theorem Table.li (xd : XReg) (imm : BitVec 16) : Table.Statement (.li xd imm) :=
  row_packI _ rfl
theorem Table.lds (xd xs1 : XReg) : Table.Statement (.lds xd xs1) :=
  row_packR 0 0 15 15 rfl rfl (xslot_and _) (xslot_and _) (by decide) (by decide)
theorem Table.sts (xs1 xs2 : XReg) : Table.Statement (.sts xs1 xs2) :=
  row_packR 15 0 0 15 rfl rfl (by decide) (xslot_and _) (xslot_and _) (by decide)
theorem Table.gfadd (xd xs1 xs2 : XReg) : Table.Statement (.gfadd xd xs1 xs2) :=
  row_packR 0 0 0 15 rfl rfl (xslot_and _) (xslot_and _) (xslot_and _) (by decide)
theorem Table.gfmul (xd xs1 xs2 : XReg) : Table.Statement (.gfmul xd xs1 xs2) :=
  row_packR 0 0 0 15 rfl rfl (xslot_and _) (xslot_and _) (xslot_and _) (by decide)
theorem Table.gfinv (xd xs1 : XReg) : Table.Statement (.gfinv xd xs1) :=
  row_packR 0 0 15 15 rfl rfl (xslot_and _) (xslot_and _) (by decide) (by decide)
theorem Table.gfdiv (xd xs1 xs2 : XReg) : Table.Statement (.gfdiv xd xs1 xs2) :=
  row_packR 0 0 0 15 rfl rfl (xslot_and _) (xslot_and _) (xslot_and _) (by decide)
theorem Table.gfexp (xd xs1 : XReg) : Table.Statement (.gfexp xd xs1) :=
  row_packR 0 0 15 15 rfl rfl (xslot_and _) (xslot_and _) (by decide) (by decide)
theorem Table.gflog (xd xs1 : XReg) : Table.Statement (.gflog xd xs1) :=
  row_packR 0 0 15 15 rfl rfl (xslot_and _) (xslot_and _) (by decide) (by decide)
theorem Table.pzero (pd : PReg) : Table.Statement (.pzero pd) :=
  row_packR 8 15 15 15 rfl rfl (pslot_and _) (by decide) (by decide) (by decide)
theorem Table.pone (pd : PReg) : Table.Statement (.pone pd) :=
  row_packR 8 15 15 15 rfl rfl (pslot_and _) (by decide) (by decide) (by decide)
theorem Table.pmono (pd : PReg) (xs1 xs2 : XReg) : Table.Statement (.pmono pd xs1 xs2) :=
  row_packR 8 0 0 15 rfl rfl (pslot_and _) (xslot_and _) (xslot_and _) (by decide)
theorem Table.pld (pd : PReg) (xs1 xs2 : XReg) : Table.Statement (.pld pd xs1 xs2) :=
  row_packR 8 0 0 15 rfl rfl (pslot_and _) (xslot_and _) (xslot_and _) (by decide)
theorem Table.pst (ps : PReg) (xs1 : XReg) : Table.Statement (.pst ps xs1) :=
  row_packR 8 0 15 15 rfl rfl (pslot_and _) (xslot_and _) (by decide) (by decide)
theorem Table.pdeg (xd : XReg) (ps1 : PReg) : Table.Statement (.pdeg xd ps1) :=
  row_packR 0 8 15 15 rfl rfl (xslot_and _) (pslot_and _) (by decide) (by decide)
theorem Table.pcoef (xd : XReg) (ps1 : PReg) (xs2 : XReg) : Table.Statement (.pcoef xd ps1 xs2) :=
  row_packR 0 8 0 15 rfl rfl (xslot_and _) (pslot_and _) (xslot_and _) (by decide)
theorem Table.pcidx (xd : XReg) (ps1 : PReg) (xs2 : XReg) : Table.Statement (.pcidx xd ps1 xs2) :=
  row_packR 0 8 0 15 rfl rfl (xslot_and _) (pslot_and _) (xslot_and _) (by decide)
theorem Table.peq (xd : XReg) (ps1 ps2 : PReg) : Table.Statement (.peq xd ps1 ps2) :=
  row_packR 0 8 8 15 rfl rfl (xslot_and _) (pslot_and _) (pslot_and _) (by decide)
theorem Table.pisz (xd : XReg) (ps1 : PReg) : Table.Statement (.pisz xd ps1) :=
  row_packR 0 8 15 15 rfl rfl (xslot_and _) (pslot_and _) (by decide) (by decide)
theorem Table.peval (xd : XReg) (ps1 : PReg) (xs2 : XReg) : Table.Statement (.peval xd ps1 xs2) :=
  row_packR 0 8 0 15 rfl rfl (xslot_and _) (pslot_and _) (xslot_and _) (by decide)
theorem Table.padd (pd ps1 ps2 : PReg) : Table.Statement (.padd pd ps1 ps2) :=
  row_packR 8 8 8 15 rfl rfl (pslot_and _) (pslot_and _) (pslot_and _) (by decide)
theorem Table.pmuls (pd ps1 : PReg) (xs2 : XReg) : Table.Statement (.pmuls pd ps1 xs2) :=
  row_packR 8 8 0 15 rfl rfl (pslot_and _) (pslot_and _) (xslot_and _) (by decide)
theorem Table.pmul (pd ps1 ps2 : PReg) : Table.Statement (.pmul pd ps1 ps2) :=
  row_packR 8 8 8 15 rfl rfl (pslot_and _) (pslot_and _) (pslot_and _) (by decide)
theorem Table.pdiv (pq ps1 ps2 pr : PReg) : Table.Statement (.pdiv pq ps1 ps2 pr) :=
  row_packR 8 8 8 8 rfl rfl (pslot_and _) (pslot_and _) (pslot_and _) (pslot_and _)
theorem Table.rsgen (pd : PReg) (xs1 : XReg) : Table.Statement (.rsgen pd xs1) :=
  row_packR 8 0 15 15 rfl rfl (pslot_and _) (xslot_and _) (by decide) (by decide)
theorem Table.rsenc (xs0 xs1 xs2 xs3 : XReg) : Table.Statement (.rsenc xs0 xs1 xs2 xs3) :=
  row_packR 0 0 0 0 rfl rfl (xslot_and _) (xslot_and _) (xslot_and _) (xslot_and _)
theorem Table.rssyn (pd : PReg) (xs1 xs2 xs3 : XReg) : Table.Statement (.rssyn pd xs1 xs2 xs3) :=
  row_packR 8 0 0 0 rfl rfl (pslot_and _) (xslot_and _) (xslot_and _) (xslot_and _)
theorem Table.rskey (psigma ps1 : PReg) (xs2 : XReg) (pomega : PReg) : Table.Statement (.rskey psigma ps1 xs2 pomega) :=
  row_packR 8 8 0 8 rfl rfl (pslot_and _) (pslot_and _) (xslot_and _) (pslot_and _)
theorem Table.rsroot (xd : XReg) (ps1 : PReg) (xs2 : XReg) : Table.Statement (.rsroot xd ps1 xs2) :=
  row_packR 0 8 0 15 rfl rfl (xslot_and _) (pslot_and _) (xslot_and _) (by decide)
theorem Table.rsmag (xs0 : XReg) (ps1 : PReg) (xs2 xs3 : XReg) : Table.Statement (.rsmag xs0 ps1 xs2 xs3) :=
  row_packR 0 8 0 0 rfl rfl (xslot_and _) (pslot_and _) (xslot_and _) (xslot_and _)
theorem Table.rsdec (xs0 xs1 xs2 xs3 : XReg) : Table.Statement (.rsdec xs0 xs1 xs2 xs3) :=
  row_packR 0 0 0 0 rfl rfl (xslot_and _) (xslot_and _) (xslot_and _) (xslot_and _)
theorem Table.cenc (xs0 xs1 xs2 : XReg) : Table.Statement (.cenc xs0 xs1 xs2) :=
  row_packR 0 0 0 15 rfl rfl (xslot_and _) (xslot_and _) (xslot_and _) (by decide)
theorem Table.cdec (xs0 xs1 xs2 : XReg) : Table.Statement (.cdec xs0 xs1 xs2) :=
  row_packR 0 0 0 15 rfl rfl (xslot_and _) (xslot_and _) (xslot_and _) (by decide)
theorem Table.luma : Table.Statement (.luma) :=
  row_packR 15 15 15 15 rfl rfl (by decide) (by decide) (by decide) (by decide)
theorem Table.thresh : Table.Statement (.thresh) :=
  row_packR 15 15 15 15 rfl rfl (by decide) (by decide) (by decide) (by decide)
theorem Table.binz : Table.Statement (.binz) :=
  row_packR 15 15 15 15 rfl rfl (by decide) (by decide) (by decide) (by decide)
theorem Table.binarize : Table.Statement (.binarize) :=
  row_packR 15 15 15 15 rfl rfl (by decide) (by decide) (by decide) (by decide)
theorem Table.locf : Table.Statement (.locf) :=
  row_packR 15 15 15 15 rfl rfl (by decide) (by decide) (by decide) (by decide)
theorem Table.loca : Table.Statement (.loca) :=
  row_packR 15 15 15 15 rfl rfl (by decide) (by decide) (by decide) (by decide)
theorem Table.locate : Table.Statement (.locate) :=
  row_packR 15 15 15 15 rfl rfl (by decide) (by decide) (by decide) (by decide)
theorem Table.xform : Table.Statement (.xform) :=
  row_packR 15 15 15 15 rfl rfl (by decide) (by decide) (by decide) (by decide)
theorem Table.extract (xs0 : XReg) : Table.Statement (.extract xs0) :=
  row_packR 0 15 15 15 rfl rfl (xslot_and _) (by decide) (by decide) (by decide)
theorem Table.render (xs1 : XReg) : Table.Statement (.render xs1) :=
  row_packR 15 0 15 15 rfl rfl (by decide) (xslot_and _) (by decide) (by decide)

end Sys2Proof.Laws
end

