-- ==== Sys2Proof/Safety.lean ====
section
/-! DEFINITION. What claims about the machine speak of: the invariants of its state, and what two states agree on. -/

namespace Sys2Proof.Machine

/-! Invariants. Each is about the fields it names and nothing else. -/

/-- Every memory is in canonical form and has no cell outside its space (R40 to R46). -/
def State.MemInv (s : State) : Prop :=
  memWf (spaceSize .cmd) s.cmd ∧ memWf (spaceSize .sym) s.sym ∧ memWf (spaceSize .img) s.img ∧
    memWf (spaceSize .lum) s.lum ∧ memWf (spaceSize .thr) s.thr ∧ memWf (spaceSize .bit) s.bit ∧
    memWf (spaceSize .rct) s.rct

/-- A sequence a polynomial register may hold: normalised, with 1 to 128 coefficients (R23, R24, R25). -/
def polyLegal (q : Poly) : Prop := norm q = q ∧ 1 ≤ q.length ∧ q.length ≤ Config.pmax

/-- Every polynomial register holds a legal sequence. -/
def State.PolyInv (s : State) : Prop := ∀ r : PReg, polyLegal (s.getP r)

/-- `STATUS` has at most one bit, of the three of R33; the fault record is 0 unless `FAULT` is set (R34); `CTRL`
keeps `INV` alone (R32); `CP` is at most `CMD_SIZE` (R27). -/
def State.StatusInv (s : State) : Prop :=
  (s.status = 0#32 ∨ s.status = 1#32 ∨ s.status = 2#32 ∨ s.status = 4#32) ∧
    (s.status ≠ 4#32 → s.err = 0#32 ∧ s.epc = 0#32 ∧ s.einfo = 0#32) ∧
    ctrlKept s.ctrl = s.ctrl ∧ s.cp.toNat ≤ Config.cmdSize

/-- The cache holds the generators of 0 to `GCNT - 1`, and `GCNT` is 1 to 64 (R39). -/
def State.CacheInv (s : State) : Prop :=
  s.gen = (List.range s.gcnt).map genPoly ∧ 1 ≤ s.gcnt ∧ s.gcnt ≤ Config.kmax + 1

/-- The machine's invariant. -/
def State.Inv (s : State) : Prop := s.MemInv ∧ s.PolyInv ∧ s.StatusInv ∧ s.CacheInv

/-! What two states agree on. -/

/-- Every word of `CMD` reads the same. -/
def sameCmd (s t : State) : Prop := ∀ i, t.cmdWord i = s.cmdWord i
/-- Every byte of `SYM` reads the same. -/
def sameSym (s t : State) : Prop := ∀ a, t.symByte a = s.symByte a
/-- Every byte of `IMG` reads the same. -/
def sameImg (s t : State) : Prop := ∀ i, t.imgByte i = s.imgByte i
/-- Every byte of `LUM` reads the same. -/
def sameLum (s t : State) : Prop := ∀ i, t.lumByte i = s.lumByte i
/-- Every cell of `THR` reads the same. -/
def sameThr (s t : State) : Prop := ∀ i, t.thrCell i = s.thrCell i
/-- Every cell of `BIT` reads the same. -/
def sameBit (s t : State) : Prop := ∀ i, t.bitCell i = s.bitCell i
/-- Every cell of `RCT` reads the same. -/
def sameRct (s t : State) : Prop := ∀ i, t.rctCell i = s.rctCell i

/-- The image memories read the same. -/
def sameImages (s t : State) : Prop := sameImg s t ∧ sameLum s t ∧ sameThr s t ∧ sameBit s t ∧ sameRct s t

/-- The CSRs no command writes (R30), the model's reset count and the host's moves are the same, and every word
of `CMD` reads the same (R40). -/
def sameFixed (s t : State) : Prop :=
  t.ctrl = s.ctrl ∧ t.res = s.res ∧ t.eclvl = s.eclvl ∧ t.resets = s.resets ∧ t.hostq = s.hostq ∧ sameCmd s t

/-- The integer CSRs commands write are the same. -/
def sameIntCsr (s t : State) : Prop :=
  t.imgW = s.imgW ∧ t.imgH = s.imgH ∧ t.codeSize = s.codeSize ∧ t.codeVer = s.codeVer ∧ t.par = s.par ∧
    t.plen = s.plen ∧ t.ncorr = s.ncorr ∧ t.rectN = s.rectN

/-- The `NUM` CSRs commands write are the same, and no free NaN was drawn. -/
def sameNumCsr (s t : State) : Prop := t.pl = s.pl ∧ t.m = s.m ∧ t.nans = s.nans

/-- `STATUS` and the fault record are the same. -/
def sameRecord (s t : State) : Prop :=
  t.status = s.status ∧ t.err = s.err ∧ t.epc = s.epc ∧ t.einfo = s.einfo

/-- The moves left once a poll at the head has passed beside a step of the busy engine. -/
def afterPoll : List HostMove → List HostMove
  | .poll :: rest => rest
  | q => q

/-- The state a step of the busy engine acts on. -/
def State.polled (s : State) : State := { s with hostq := afterPoll s.hostq }

/-- The engine takes the next turn: it is busy, and the host does not apply reset now. -/
def State.engineTurn (s : State) : Prop := busyBit s.status = true ∧ ∀ rest, s.hostq ≠ .reset :: rest

/-- The host takes the next turn with the move `h`, `rest` left after it: the engine is idle. -/
def State.hostTurn (s : State) (h : HostMove) (rest : List HostMove) : Prop :=
  busyBit s.status = false ∧ s.hostq = h :: rest

/-- How a command that is not `HALT` ends (R27, R120): it completed, or it took a fault. -/
def endsAs (s t : State) : Prop :=
  (t.cp = s.cp + 1#32 ∧ sameRecord s t) ∨ ∃ c info, t = s.faulted c info

end Sys2Proof.Machine
end

