-- ==== Sys2Proof/Certificates/Slice0/Obligations.lean ====
section
/-! DEFINITION. The statements for the provers. Each cites the rules of spec/ it formalises in OBLIGATIONS.json. -/

open Sys2Proof Sys2Proof.Machine

namespace Sys2Proof.Certificates

/-- The command takes the fault `c` with detail `n`; what that does is `Obligations.FaultEntry`. -/
def faultsAs (i : Instr) (s : State) (c : ErrCode) (n : Nat) : Prop := exec i s = .next (s.faulted c n)

/-- A range of `n` cells from `a` lies in `SYM` (R66). -/
def fits (a n : Nat) : Prop := n = 0 ∨ a + n ≤ 4096

/-- Every byte of the range is a field element (R131). -/
def fieldBytes (s : State) (a n : Nat) : Prop := ∀ j, j < n → (s.symByte (a + j)).toNat ≤ 63

/-- The byte at offset `j` is the first of the range that is no field element (R131). -/
def firstBadAt (s : State) (a n j : Nat) : Prop :=
  j < n ∧ fieldBytes s a j ∧ 63 < (s.symByte (a + j)).toNat

/-- The bytes of a range as field elements, in ascending order (R61). -/
def symbols (s : State) (a n : Nat) : List GF := (List.range n).map fun j => byteGF (s.symByte (a + j))

/-- The sum of a list of field elements. -/
def gfSum (l : List GF) : GF := l.foldl (fun a b => a ^^^ b) 0

/-- `v^i` in the field. -/
def gfPow (v : GF) : Nat → GF
  | 0 => 1
  | i + 1 => gmul (gfPow v i) v

/-- The carry-less product of two 6-bit numbers, 11 bits (R139). -/
def carryless (x y : BitVec 11) : BitVec 11 :=
  (List.range 6).foldl (fun r i => if y.getLsbD i then r ^^^ (x <<< i) else r) 0

/-- The reduction by 0x43 from bit 10 down to bit 6 (R139). -/
def reduce43 (r : BitVec 11) : BitVec 11 :=
  [10, 9, 8, 7, 6].foldl (fun r b => if r.getLsbD b then r ^^^ (0x43#11 <<< (b - 6)) else r) r

/-- One command per row of spec/opcode_table.json, so that `tableRow` of it is the row. -/
def rowSamples : List Instr :=
  [.halt, .li 0 0, .lds 0 0, .sts 0 0, .gfadd 0 0 0, .gfmul 0 0 0, .gfinv 0 0, .gfdiv 0 0 0, .gfexp 0 0, .gflog 0 0,
   .pzero 0, .pone 0, .pmono 0 0 0, .pld 0 0 0, .pst 0 0, .pdeg 0 0, .pcoef 0 0 0, .pcidx 0 0 0, .peq 0 0 0,
   .pisz 0 0, .peval 0 0 0, .padd 0 0 0, .pmuls 0 0 0, .pmul 0 0 0, .pdiv 0 0 0 0, .rsgen 0 0, .rsenc 0 0 0 0,
   .rssyn 0 0 0 0, .rskey 0 0 0 0, .rsroot 0 0 0, .rsmag 0 0 0 0, .rsdec 0 0 0 0, .cenc 0 0 0, .cdec 0 0 0, .luma,
   .thresh, .binz, .binarize, .locf, .loca, .locate, .xform, .extract 0, .render 0]

/-- The numbers of the fault codes, from the table of R381. -/
def errCodes : List (ErrCode × Nat) :=
  [(.illegal, 1), (.range, 2), (.addr, 3), (.gfZero, 4), (.polyDivZero, 5), (.rsFail, 6), (.emptyPayload, 9),
   (.badChar, 10), (.ecLevel, 11), (.tooBig, 12), (.resSmall, 13), (.invalidCode, 14), (.noFinders, 15),
   (.noValidFinders, 16), (.notSquare, 17), (.imgSmall, 18), (.overflow, 19)]

/-- Each integer CSR a command may write is as it was or below 2^16 (R35). -/
def csrWritesSmall (s t : State) : Prop :=
  ∀ w ∈ [(s.imgW, t.imgW), (s.imgH, t.imgH), (s.codeSize, t.codeSize), (s.codeVer, t.codeVer), (s.par, t.par),
      (s.plen, t.plen), (s.ncorr, t.ncorr), (s.rectN, t.rectN)], w.2 = w.1 ∨ w.2.toNat < 2 ^ 16

/-- The destination of a command that writes one scalar register and no memory. -/
def scalarDest : Instr → Option XReg
  | .li xd _ => some xd
  | .lds xd _ => some xd
  | .gfadd xd _ _ => some xd
  | .gfmul xd _ _ => some xd
  | .gfinv xd _ => some xd
  | .gfdiv xd _ _ => some xd
  | .gfexp xd _ => some xd
  | .gflog xd _ => some xd
  | .pdeg xd _ => some xd
  | .pcoef xd _ _ => some xd
  | .pcidx xd _ _ => some xd
  | .peq xd _ _ => some xd
  | .pisz xd _ => some xd
  | .peval xd _ _ => some xd
  | _ => none

/-- The destinations of a command that writes polynomial registers; none where it writes no such register. -/
def polyDests : Instr → List PReg
  | .pzero pd => [pd]
  | .pone pd => [pd]
  | .pmono pd _ _ => [pd]
  | .pld pd _ _ => [pd]
  | .padd pd _ _ => [pd]
  | .pmuls pd _ _ => [pd]
  | .pmul pd _ _ => [pd]
  | .pdiv pq _ _ pr => [pq, pr]
  | .rsgen pd _ => [pd]
  | .rssyn pd _ _ _ => [pd]
  | .rskey psigma _ _ pomega => [psigma, pomega]
  | _ => []

/-- The `SYM` range a storing command writes when it completes: its address and its width in bytes (R64). -/
def symDest (s : State) : Instr → Option (Nat × Nat)
  | .sts xs1 _ => some (s.natX xs1, 1)
  | .pst ps xs1 => some (s.natX xs1, (s.getP ps).length)
  | .rsenc xs0 _ xs2 xs3 => some (s.natX xs0, s.natX xs2 + s.natX xs3)
  | .rsroot _ ps1 xs2 => some (s.natX xs2, deg (s.getP ps1))
  | .rsmag xs0 _ _ xs3 => some (s.natX xs0, s.natX xs3)
  | .rsdec xs0 _ xs2 _ => some (s.natX xs0, s.natX xs2)
  | .cenc xs0 _ xs2 => some (s.natX xs0, sideFor (minSize (s.natX xs2) s.eclvl) ^ 2)
  | .cdec xs0 xs1 _ => some (s.natX xs0, (s.symByte (s.natX xs1 + 1)).toNat)
  | .extract xs0 =>
    match measure s.rctGrid with
    | .ok (_, cells) => some (s.natX xs0, cells ^ 2)
    | .error _ => some (s.natX xs0, 0)
  | _ => none

/-- A register, CSR or list outside what a storing command may change is unchanged (R30, R64, R97). -/
def storeFrame (s t : State) : Instr → Prop
  | .rsroot xd _ _ => (∀ r, r ≠ xd → t.getX r = s.getX r) ∧ sameIntCsr s t ∧ t.gen = s.gen
  | .rsenc _ _ _ _ => t.x = s.x ∧ sameIntCsr s t
  | .rsdec _ _ _ _ => t.x = s.x ∧ sameIntCsr s { t with ncorr := s.ncorr } ∧ t.gen = s.gen
  | .cenc _ _ _ =>
    t.x = s.x ∧ sameIntCsr s { t with codeSize := s.codeSize, codeVer := s.codeVer, par := s.par }
  | .cdec _ _ _ =>
    t.x = s.x ∧ sameIntCsr s { t with codeVer := s.codeVer, plen := s.plen, par := s.par, ncorr := s.ncorr } ∧
      t.gen = s.gen
  | .extract _ => t.x = s.x ∧ sameIntCsr s { t with codeSize := s.codeSize, codeVer := s.codeVer } ∧ t.gen = s.gen
  | _ => t.x = s.x ∧ sameIntCsr s t ∧ t.gen = s.gen

/-- `a` and `r` solve the key equation of the syndromes `sp` for `k` parity symbols: `a * sp` is `r` modulo `X^k`, and
their degrees are those the Euclidean loop stops at (R205, R206). -/
def solvesKey (sp : Poly) (k : Nat) (a r : Poly) : Prop :=
  (∀ j, j < k → coef (pmul a sp) j = coef r j) ∧ 2 * deg a ≤ k ∧ 2 * deg r < k

/-- `c` is the candidate R324 adopts from the list: of those in the size window, in the order of discovery, the first of
the lowest error. -/
def adopts (expected : F64) (cands : List Cand) (c : Cand) : Prop :=
  ∃ pre post, cands = pre ++ c :: post ∧ adoptable expected c = true ∧
    (∀ d ∈ pre, adoptable expected d = true → Fp.le d.err c.err = false) ∧
    (∀ d ∈ post, adoptable expected d = true → Fp.lt d.err c.err = false)

/-- The three finders of the record are the centres of three swept candidates taken in ascending order of error, with the
mean of their sizes (R311, R312, R321); every two are at least 50 apart (R313), and `TR` and `BL` are a farthest pair
(R319). -/
def threeFinders (s : State) (pl : Patterns) : Prop :=
  (∃ a b c : Cand, (∀ d ∈ [a, b, c], d ∈ sweep s.bitGrid finderRatio 0 s.width 0 s.height) ∧
    Fp.lt b.err a.err = false ∧ Fp.lt c.err b.err = false ∧
    [pl.tl, pl.tr, pl.bl].Perm [a.centre, b.centre, c.centre] ∧
    pl.fsize = Fp.div (Fp.add (Fp.add a.size b.size) c.size) (Fp.ofNat 3)) ∧
  Fp.le (Fp.ofNat 50) (dist pl.tl pl.tr) = true ∧ Fp.le (Fp.ofNat 50) (dist pl.tl pl.bl) = true ∧
  Fp.le (Fp.ofNat 50) (dist pl.tr pl.bl) = true ∧
  Fp.le (dist pl.tl pl.tr) (dist pl.tr pl.bl) = true ∧ Fp.le (dist pl.tl pl.bl) (dist pl.tr pl.bl) = true

/-- `r` is `num / den` units of 2^-1074 with the sign `neg`, rounded once: the nearest finite value, of two nearest the even
one, or the infinity where the quotient is at or above the middle between the greatest finite value and 2^1024. -/
def roundedOnce (r : F64) (neg : Bool) (num den : Nat) : Prop :=
  Fp.isNeg r = neg ∧
  (Fp.isFinite r = true → ∀ c : F64, Fp.isFinite c = true →
    ((num : Int) - Fp.mag r * den).natAbs ≤ ((num : Int) - Fp.mag c * den).natAbs ∧
    (Fp.mag c ≠ Fp.mag r → ((num : Int) - Fp.mag r * den).natAbs = ((num : Int) - Fp.mag c * den).natAbs →
      Fp.fracField r % 2 = 0)) ∧
  (Fp.isFinite r = false ↔ ((2 ^ 54 - 1) <<< 2044) * den ≤ num) ∧ (Fp.isFinite r = false → Fp.isInf r = true)

/-- The channel byte `LUMA` uses (R281). -/
def channel (s : State) (v : Byte) : Byte := if s.ctrl.getLsbD 8 then 255#8 - v else v

/-- The sum of the 80 x 80 block of luma values at `(x, y)` (R285). -/
def lumBlock (s : State) (x y : Nat) : Nat :=
  ((List.range 80).map fun j =>
    ((List.range 80).map fun i => (s.lumByte ((y + j) * s.width + (x + i))).toNat).sum).sum

/-- `num(LUM(x, y))`. -/
def lumAt (s : State) (x y : Nat) : F64 := Fp.ofNat (s.lumByte (y * s.width + x)).toNat

/-- `THR(bx, by)` for the block of pixel `(x, y)` (R289). -/
def tau0 (s : State) (x y : Nat) : F64 :=
  s.thrCell ((min (max (y + 40) 79) (s.height - 1) - 79) * (s.width - 79) + (min (max (x + 40) 79) (s.width - 1) - 79))

/-- The decided thresholds obey R290. -/
def decided (s : State) (d : Nat → Nat → F64) : Prop :=
  ∀ x y, x < s.width → y < s.height →
    d x y =
      if Fp.lt (Fp.abs (Fp.sub (tau0 s x y) (lumAt s x y))) (Fp.ofNat 20) then
        if 0 < x ∧ 0 < y then Fp.div (Fp.add (Fp.add (d x (y - 1)) (d (x - 1) y)) (d (x - 1) (y - 1))) (Fp.ofNat 3)
        else Fp.sub (Fp.div (lumAt s x y) (Fp.ofNat 2)) (Fp.ofNat 2)
      else tau0 s x y

/-- The dimensions are accepted (R35). -/
def dimsOk (s : State) : Prop := s.width ≤ Config.wmax ∧ s.height ≤ Config.hmax

/-- The pixel at `(x, y)` is within the annulus `lo < 7*r <= hi` about `(cx, cy)`, all times `s` (R265, R266). -/
def inRing (sc lo hi cx cy x y : Nat) : Prop :=
  ((lo * sc : Nat) : Int) ^ 2 < 49 * (((x : Int) - cx) ^ 2 + ((y : Int) - cy) ^ 2) ∧
    49 * (((x : Int) - cx) ^ 2 + ((y : Int) - cy) ^ 2) ≤ ((hi * sc : Nat) : Int) ^ 2

/-- The pixel is in the black disc or the outer black ring of a finder centred on `(cx, cy)` (R265). -/
def inFinder (sc cx cy x y : Nat) : Prop :=
  49 * (((x : Int) - cx) ^ 2 + ((y : Int) - cy) ^ 2) ≤ ((33 * sc : Nat) : Int) ^ 2 ∨ inRing sc 55 77 cx cy x y

/-- The pixel is black in bar `b` of the symbol `v` of column `c`, row `r` (R268, R269). -/
def inBar (sc pad c r b : Nat) (v : GF) (x y : Nat) : Prop :=
  let x0 := pad + (44 + 28 * c) * sc
  let y0 := pad + (44 + 28 * r) * sc
  y0 + 4 * b * sc ≤ y ∧ y < y0 + 4 * b * sc + 2 * sc ∧ x0 ≤ x ∧ x < x0 + 22 * sc ∧
    ¬ (v.getLsbD (5 - b) = false ∧ x0 + 9 * sc ≤ x ∧ x < x0 + 13 * sc)

/-- The pixel `(x, y)` of the drawing of the code at `src` is black (R264 to R269). -/
def drawnBlack (s : State) (src x y : Nat) : Prop :=
  let side := s.codeSize.toNat
  let base := 28 * side + 82
  let sc := s.res.toNat / base
  let pad := (s.res.toNat - base * sc) / 2
  let lo := pad + 33 * sc
  let hi := pad + (base - 33) * sc
  inFinder sc lo lo x y ∨ inFinder sc hi lo x y ∨ inFinder sc lo hi x y ∨ inRing sc 33 55 hi hi x y ∨
    ∃ c r b, c < side ∧ r < side ∧ b < 6 ∧ inBar sc pad c r b (byteGF (s.symByte (src + (c * side + r)))) x y

/-- The rectified cell that samples at the source point `q` (R348). -/
def sampled (s : State) (q : Point) : Bool :=
  if Fp.isFinite q.x = true ∧ Fp.isFinite q.y = true then
    let xi := Fp.floor (Fp.add q.x (Fp.ofRatio 1 2))
    let yi := Fp.floor (Fp.add q.y (Fp.ofRatio 1 2))
    if 0 ≤ xi ∧ xi < s.width ∧ 0 ≤ yi ∧ yi < s.height then s.bitCell (yi.toNat * s.width + xi.toNat) else false
  else false

end Sys2Proof.Certificates

open Sys2Proof.Certificates

/-! The machine: decoding, steps, faults, reset, the host. -/

/-- R103: the worked encodings decode to the commands they stand for. -/
def Obligations.WorkedEncodings : Prop :=
  decode 0x00000000#32 = .ok .halt ∧ decode 0x00070101#32 = .ok (.li 1 7#16) ∧
  decode 0xFFFF0F01#32 = .ok (.li 15 0xFFFF#16) ∧ decode 0x00004302#32 = .ok (.lds 3 4) ∧
  decode 0x00056003#32 = .ok (.sts 6 5) ∧ decode 0x00021311#32 = .ok (.gfmul 3 1 2) ∧
  decode 0x00001212#32 = .ok (.gfinv 2 1) ∧ decode 0x00032122#32 = .ok (.pmono 1 2 3) ∧
  decode 0x0031022E#32 = .ok (.pdiv 2 0 1 3) ∧ decode 0x00321031#32 = .ok (.rsenc 0 1 2 3) ∧
  decode 0x00523433#32 = .ok (.rskey 4 3 2 5) ∧ decode 0x00000043#32 = .ok .binarize ∧
  decode 0x00000951#32 = .ok (.extract 9) ∧ decode 0x00001058#32 = .ok (.render 1)

/-- R98: a word is legal exactly when, under the mask of some row of spec/opcode_table.json, it is the row's match. -/
def Obligations.LegalWords : Prop :=
  ∀ w : Word, (∃ i, decode w = .ok i) ↔ ∃ r ∈ rowSamples, w &&& (Laws.tableRow r).1 = (Laws.tableRow r).2

/-- R91 to R98: decoding the word of a command gives the command back, for every command and every operand. -/
def Obligations.DecodeEncode : Prop := ∀ i : Instr, decode (encode i) = .ok i

/-- R98, R99: a legal word is the word of the command it decodes to, so no command has two words. -/
def Obligations.EncodeDecode : Prop := ∀ (w : Word) (i : Instr), decode w = .ok i → encode i = w

/-- R120: when the engine takes the turn and the word at `CP` decodes to a command, the step is that command's
execution. The model's choice (log 7): who takes the turn, and that a poll at the head of the host's moves passes with
the step (`State.polled`). -/
def Obligations.StepRunsDecoded : Prop :=
  ∀ (s : State) (i : Instr), s.engineTurn → s.cp.toNat < 1024 → decode (s.cmdWord s.cp.toNat) = .ok i →
    step s = exec i s.polled

/-- R28, R99, R100: a `CP` past the last word raises `E_ADDR(0)` and nothing is fetched; a word that is no command raises
`E_ILLEGAL` with the word as detail; every opcode outside the table is illegal whatever the other bits; the all-zero word
alone is `HALT`; the all-ones word is illegal. The model's choice (log 7): who takes the turn, and that a poll at the
head of the host's moves passes with the step (`State.polled`). -/
def Obligations.FetchFaults : Prop :=
  (∀ s : State, s.engineTurn → 1024 ≤ s.cp.toNat →
    ∃ t, step s = .next t ∧ t.err = 3#32 ∧ t.epc = s.cp ∧ t.einfo = 0#32 ∧ t = s.polled.faulted .addr 0) ∧
  (∀ (s : State) (e : DecodeError), s.engineTurn → s.cp.toNat < 1024 → decode (s.cmdWord s.cp.toNat) = .error e →
    ∃ t, step s = .next t ∧ t.err = 1#32 ∧ t.epc = s.cp ∧ t.einfo = s.cmdWord s.cp.toNat ∧
      t = s.polled.faulted .illegal (s.cmdWord s.cp.toNat).toNat) ∧
  (∀ w : Word, w.toNat % 256 ∈ [0x04, 0x05, 0x06, 0x07, 0x08, 0x09, 0x0A, 0x0B, 0x0C, 0x0D, 0x0E, 0x0F,
      0x16, 0x17, 0x18, 0x19, 0x1A, 0x1B, 0x1C, 0x1D, 0x1E, 0x1F, 0x2F, 0x37, 0x3A, 0x3B, 0x3C, 0x3D, 0x3E, 0x3F,
      0x44, 0x45, 0x46, 0x47, 0x4B, 0x4C, 0x4D, 0x4E, 0x4F, 0x52, 0x53, 0x54, 0x55, 0x56, 0x57,
      0x59, 0x5A, 0x5B, 0x5C, 0x5D, 0x5E, 0x5F] ∨ 0x60 ≤ w.toNat % 256 → ∃ e, decode w = .error e) ∧
  (∀ w : Word, decode w = .ok .halt ↔ w = 0#32) ∧ ∃ e, decode 0xFFFFFFFF#32 = .error e

/-- R390, R381: taking a fault writes the record, `ERR` with the number R381 gives the code, sets `FAULT`, clears `BUSY`,
leaves `DONE` as it was, and changes nothing else; while the engine is busy `STATUS` becomes 4. -/
def Obligations.FaultEntry : Prop :=
  (∀ c : ErrCode, ∃ num, (c, num) ∈ errCodes) ∧
  ∀ (s : State) (c : ErrCode) (num n : Nat), (c, num) ∈ errCodes → n < 2 ^ 32 →
    ∃ t, s.raise c n = .next t ∧ t.err.toNat = num ∧ t.epc = s.cp ∧ t.einfo.toNat = n ∧
      faultBit t.status = true ∧ busyBit t.status = false ∧ doneBit t.status = doneBit s.status ∧
      (s.status = 1#32 → t.status = 4#32) ∧
      t = { s with err := t.err, epc := t.epc, einfo := t.einfo, status := t.status }

/-- R120, R27, R391, R30, R40, R35: every command, in every state, either completes with `CP` one further and the record as it
was, or takes a fault that changes the record alone; only `HALT` ends otherwise. No command writes `CMD`, `CTRL`, `RES` or
`ECLVL`, and none writes a value of 2^16 or more to an integer CSR. -/
def Obligations.CommandEnds : Prop :=
  ∀ (i : Instr) (s : State), ∃ t, exec i s = .next t ∧ sameFixed s t ∧ csrWritesSmall s t ∧
    ((i = .halt ∧ t = s.halted) ∨ (i ≠ .halt ∧ endsAs s t))

/-- R48: the state after reset; each memory cell holds the free value of its space, of which nothing is known (log 5). -/
def Obligations.ResetValues : Prop :=
  (∀ r : XReg, State.reset.getX r = 0#16) ∧ (∀ r : PReg, State.reset.getP r = [0]) ∧
  (∀ n ∈ [0x01, 0x02, 0x03, 0x04, 0x05, 0x06, 0x08, 0x09, 0x0B, 0x0C, 0x0D, 0x0E, 0x0F, 0x10, 0x20, 0x21, 0x22, 0x23,
      0x24, 0x25, 0x26, 0x27, 0x28, 0x29, 0x2A, 0x30, 0x31, 0x32, 0x33, 0x34, 0x35, 0x36, 0x37, 0x38],
    State.reset.readCsr n = 0#64) ∧
  State.reset.readCsr 0x00 = 0x00014306#64 ∧ State.reset.readCsr 0x0A = 1250#64 ∧
  State.reset.gcnt = 1 ∧ State.reset.gen = [[1]] ∧
  (∀ i, State.reset.cmdWord i = Config.cmdFill 0 i) ∧ (∀ i, State.reset.symByte i = Config.symFill 0 i) ∧
  (∀ i, State.reset.imgByte i = Config.imgFill 0 i) ∧ (∀ i, State.reset.lumByte i = Config.lumFill 0 i) ∧
  (∀ i, State.reset.thrCell i = Config.thrFill 0 i) ∧ (∀ i, State.reset.bitCell i = Config.bitFill 0 i) ∧
  (∀ i, State.reset.rctCell i = Config.rctFill 0 i)

/-- R48 with R23, R33, R34, R39: the state after reset meets the machine's invariant. -/
def Obligations.ResetInv : Prop := State.reset.Inv

/-- R40 to R46, R65, R66: every step keeps every memory in canonical form and inside its space. -/
def Obligations.StepKeepsMemInv : Prop := ∀ s t : State, s.MemInv → step s = .next t → t.MemInv

/-- R23, R24, R25: every step leaves each polynomial register normalised, with 1 to 128 coefficients. -/
def Obligations.StepKeepsPolyInv : Prop := ∀ s t : State, s.PolyInv → step s = .next t → t.PolyInv

/-- R27, R32, R33, R34: every step keeps at most one `STATUS` bit set, a zero record outside a fault, `INV` alone in
`CTRL`, and `CP` at most 1024. -/
def Obligations.StepKeepsStatusInv : Prop := ∀ s t : State, s.StatusInv → step s = .next t → t.StatusInv

/-- R39, R74, R196: every step keeps the cache equal to the generators of 0 to `GCNT - 1`, `GCNT` at most 64. -/
def Obligations.StepKeepsCacheInv : Prop := ∀ s t : State, s.CacheInv → step s = .next t → t.CacheInv

/-- R76, R121, R433: from any state with the engine busy and no host move to come, the run ends: after at most one step
more than the words left, the engine is idle. -/
def Obligations.RunsEnd : Prop :=
  ∀ s : State, busyBit s.status = true → s.hostq = [] →
    ∃ n t, n ≤ 1 + (1024 - s.cp.toNat) ∧ Host.Core.run Sys2Proof.core n s = .next t ∧ busyBit t.status = false

/-- R20, R75, R120: no step refuses; a step faults only on a host move that names a cell its memory does not have
(the model's choice, log 8). -/
def Obligations.StepStops : Prop :=
  ∀ s : State, (∃ t, step s = .next t) ∨
    ∃ h rest sp i, s.hostTurn h rest ∧ spaceSize sp ≤ i ∧ step s = .fault (.noSuchCell sp i)

/-- R424: a host write of `CTRL` with `START` set, engine idle, sets `CP` to 0, clears the record and `DONE` and `FAULT`,
sets `BUSY`, keeps `INV` as written, and changes nothing else. -/
def Obligations.StartEffect : Prop :=
  ∀ (s : State) (v : BitVec 64) (rest : List HostMove), s.hostTurn (.writeCsr 1 v) rest → v.getLsbD 0 = true →
    ∃ t, step s = .next t ∧ busyBit t.status = true ∧ doneBit t.status = false ∧ faultBit t.status = false ∧
      (s.StatusInv → t.status = 1#32) ∧
      t = { s with cp := 0#32, err := 0#32, epc := 0#32, einfo := 0#32, status := t.status,
                   ctrl := ctrlKept (v.setWidth 32), hostq := rest }

/-- R32, V84: a host write of `CTRL` keeps bit 8 alone; with `CLR` and not `START` it clears `DONE`, `FAULT` and the
record; with both it acts as `CLR` and then `START`; `CTRL` then reads only the kept bit. -/
def Obligations.CtrlWrite : Prop :=
  ∀ (s : State) (v : Word),
    (s.writeCtrl v).readCsr 1 = (v &&& 0x100#32).setWidth 64 ∧
    (v.getLsbD 0 = false → v.getLsbD 1 = false → s.writeCtrl v = { s with ctrl := v &&& 0x100#32 }) ∧
    (v.getLsbD 0 = false → v.getLsbD 1 = true →
      doneBit (s.writeCtrl v).status = false ∧ faultBit (s.writeCtrl v).status = false ∧
      busyBit (s.writeCtrl v).status = busyBit s.status ∧
      s.writeCtrl v = { s with ctrl := v &&& 0x100#32, err := 0#32, epc := 0#32, einfo := 0#32,
                               status := (s.writeCtrl v).status }) ∧
    (v.getLsbD 0 = true → v.getLsbD 1 = true →
      s.writeCtrl v = (s.writeCtrl (v &&& 0xFFFFFFFE#32)).writeCtrl (v &&& 0xFFFFFFFD#32))

/-- R31: `ID` reads 0x00014306 in every state and after every write. -/
def Obligations.IdConstant : Prop :=
  ∀ (s : State) (n : Nat) (v : BitVec 64), (s.writeCsr n v).readCsr 0 = 0x00014306#64 ∧
    (s.readCsr 0).extractLsb' 0 8 = 6#8 ∧ (s.readCsr 0).extractLsb' 8 8 = 0x43#8 ∧
    (s.readCsr 0).extractLsb' 16 8 = 1#8 ∧ (s.readCsr 0).extractLsb' 24 8 = 0#8

/-- R30, U4, V84: a writable CSR reads back what was written, 32 bits or 64 as its width, and the other CSRs keep their
values; a read-only CSR and a reserved number ignore the write (read-only: log 16); a reserved number reads 0. -/
def Obligations.CsrPort : Prop :=
  ∀ (s : State) (n : Nat) (v : BitVec 64),
    (n ∈ [0x08, 0x09, 0x0A, 0x0B, 0x0C, 0x0D, 0x0E, 0x0F, 0x10] →
      (s.writeCsr n v).readCsr n = (v.setWidth 32).setWidth 64) ∧
    (n ∈ [0x20, 0x21, 0x22, 0x23, 0x24, 0x25, 0x26, 0x27, 0x28, 0x29, 0x2A] → (s.writeCsr n v).readCsr n = v) ∧
    (n ≠ 0x01 → ∀ k, k ≠ n → (s.writeCsr n v).readCsr k = s.readCsr k) ∧
    (n ∈ [0x00, 0x02, 0x03, 0x04, 0x05, 0x06, 0x07] ∨ (0x11 ≤ n ∧ n < 0x20) ∨ 0x2B ≤ n → s.writeCsr n v = s) ∧
    (n = 0x07 ∨ (0x11 ≤ n ∧ n < 0x20) ∨ (0x2B ≤ n ∧ n < 0x30) ∨ 0x39 ≤ n → s.readCsr n = 0#64)

/-- R421, R422: a reset the host applies, engine busy or idle, gives every register and CSR its reset value and makes
every memory cell a fresh free value (log 5, log 6). -/
def Obligations.HostReset : Prop :=
  ∀ (s : State) (rest : List HostMove), s.hostq = .reset :: rest →
    ∃ t, step s = .next t ∧ t = { State.reset with resets := s.resets + 1, nans := s.nans, hostq := rest } ∧
      (∀ i, t.cmdWord i = Config.cmdFill (s.resets + 1) i) ∧ (∀ i, t.symByte i = Config.symFill (s.resets + 1) i) ∧
      (∀ i, t.imgByte i = Config.imgFill (s.resets + 1) i) ∧ (∀ i, t.lumByte i = Config.lumFill (s.resets + 1) i) ∧
      (∀ i, t.thrCell i = Config.thrFill (s.resets + 1) i) ∧ (∀ i, t.bitCell i = Config.bitFill (s.resets + 1) i) ∧
      (∀ i, t.rctCell i = Config.rctFill (s.resets + 1) i)

/-! Frames. -/

/-- The frame of the commands that write one scalar register (LI, LDS, the field scalar commands, PDEG, PCOEF, PCIDX,
PEQ, PISZ, PEVAL): nothing but that register and `CP` changes, or a fault changes the record alone. -/
def Obligations.ScalarFrame : Prop :=
  ∀ (i : Instr) (xd : XReg) (s t : State), scalarDest i = some xd → exec i s = .next t →
    (∀ r, r ≠ xd → t.getX r = s.getX r) ∧ t.p = s.p ∧ sameFixed s t ∧ sameSym s t ∧ sameImages s t ∧
    sameIntCsr s t ∧ sameNumCsr s t ∧ t.gen = s.gen ∧ endsAs s t

/-- The frame of the commands that write polynomial registers (PZERO, PONE, PMONO, PLD, PADD, PMULS, PMUL, PDIV, RSGEN,
RSSYN, RSKEY): nothing but the destinations and `CP` changes, and the cache for RSGEN. -/
def Obligations.PolyFrame : Prop :=
  ∀ (i : Instr) (s t : State), polyDests i ≠ [] → exec i s = .next t →
    (∀ r, r ∉ polyDests i → t.getP r = s.getP r) ∧ t.x = s.x ∧ sameFixed s t ∧ sameSym s t ∧ sameImages s t ∧
    sameIntCsr s t ∧ sameNumCsr s t ∧ ((∀ pd xs1, i ≠ .rsgen pd xs1) → t.gen = s.gen) ∧ endsAs s t

/-- The frame of the commands that store to `SYM` (STS, PST, RSENC, RSROOT, RSMAG, RSDEC, CENC, CDEC, EXTRACT): every
byte outside the range the command computes reads as before, and so does every other cell, register and CSR but those
its rule names. -/
def Obligations.StoreFrame : Prop :=
  ∀ (i : Instr) (s t : State) (a n : Nat), symDest s i = some (a, n) → exec i s = .next t →
    (∀ b, b < a ∨ a + n ≤ b → t.symByte b = s.symByte b) ∧ t.p = s.p ∧ sameFixed s t ∧ sameImages s t ∧
    sameNumCsr s t ∧ storeFrame s t i ∧ endsAs s t

/-- The frame of the image commands: LUMA, THRESH, BINZ, BINARIZE write cells of their own result alone; LOCF, LOCA and
LOCATE write the patterns record alone, LOCF keeping the fourth corner and LOCA the finders; XFORM writes `M`, `RECT_N`
and `N*N` cells of `RCT`; RENDER writes `IMG_W`, `IMG_H` and `R*R` pixels. -/
def Obligations.ImageFrame : Prop :=
  ∀ (i : Instr) (s t : State),
    i ∈ [.luma, .thresh, .binz, .binarize, .locf, .loca, .locate, .xform] ∨ (∃ xs1, i = .render xs1) →
    exec i s = .next t →
    t.x = s.x ∧ t.p = s.p ∧ t.gen = s.gen ∧ sameFixed s t ∧ sameSym s t ∧ endsAs s t ∧
    ((∀ xs1, i ≠ .render xs1) → sameImg s t ∧ t.imgW = s.imgW ∧ t.imgH = s.imgH) ∧
    (i ≠ .luma → i ≠ .binarize → sameLum s t) ∧ (i ≠ .thresh → i ≠ .binarize → sameThr s t) ∧
    (i ≠ .binz → i ≠ .binarize → (∀ xs1, i ≠ .render xs1) → sameBit s t) ∧
    (i ≠ .xform → sameRct s t ∧ t.rectN = s.rectN ∧ t.m = s.m ∧ t.nans = s.nans) ∧
    (i ≠ .locf → i ≠ .loca → i ≠ .locate → t.pl = s.pl) ∧
    (i = .locf → t.pl.br = s.pl.br ∧ t.pl.asize = s.pl.asize) ∧
    (i = .loca → t.pl = { s.pl with br := t.pl.br, asize := t.pl.asize }) ∧
    t.codeSize = s.codeSize ∧ t.codeVer = s.codeVer ∧ t.par = s.par ∧ t.plen = s.plen ∧ t.ncorr = s.ncorr ∧
    (∀ k, s.width * s.height ≤ k → t.lumByte k = s.lumByte k) ∧
    (∀ k, (s.width - 79) * (s.height - 79) ≤ k → t.thrCell k = s.thrCell k) ∧
    ((∀ xs1, i ≠ .render xs1) → ∀ k, s.width * s.height ≤ k → t.bitCell k = s.bitCell k) ∧
    ((∃ xs1, i = .render xs1) → ∀ k, s.res.toNat * s.res.toNat ≤ k → t.bitCell k = s.bitCell k) ∧
    ((∃ xs1, i = .render xs1) → ∀ k, 4 * (s.res.toNat * s.res.toNat) ≤ k → t.imgByte k = s.imgByte k) ∧
    (∀ n, sideOf (rectSide s.pl) = .ok n → ∀ k, n * n ≤ k → t.rctCell k = s.rctCell k)

/-! The commands: where each completes and with what, and where it faults, the checks in the rule's order. -/

/-- R122, R123: `HALT` sets `DONE`, clears `BUSY`, and changes nothing else, `CP` included; `LI` writes the 16-bit
immediate as it is. -/
def Obligations.HaltLiEffect : Prop :=
  decode (packR 0x00#8 0 0 0 0) = .ok .halt ∧
  (∀ s : State, ∃ t, exec .halt s = .next t ∧ doneBit t.status = true ∧ busyBit t.status = false ∧
    faultBit t.status = faultBit s.status ∧ (s.status = 1#32 → t.status = 2#32) ∧ t = { s with status := t.status }) ∧
  ∀ (xd : XReg) (imm : BitVec 16) (s : State),
    decode (packI 0x01#8 (xslot xd) imm) = .ok (.li xd imm) ∧
    exec (.li xd imm) s = .next { s with x := s.x.set xd.val imm, cp := s.cp + 1#32 }

/-- R124, R125: `LDS` loads the byte zero-extended, or faults on an address past `SYM`; `STS` checks the value, then the
address, and stores the byte. -/
def Obligations.ByteMoves : Prop :=
  ∀ (xd xs1 xs2 : XReg) (s : State),
    decode (packR 0x02#8 (xslot xd) (xslot xs1) 0 0) = .ok (.lds xd xs1) ∧
    decode (packR 0x03#8 0 (xslot xs1) (xslot xs2) 0) = .ok (.sts xs1 xs2) ∧
    (4096 ≤ s.natX xs1 → faultsAs (.lds xd xs1) s .addr (s.natX xs1)) ∧
    (s.natX xs1 < 4096 → exec (.lds xd xs1) s =
      .next { s with x := s.x.set xd.val ((s.symByte (s.natX xs1)).setWidth 16), cp := s.cp + 1#32 }) ∧
    (255 < s.natX xs2 → faultsAs (.sts xs1 xs2) s .range (s.natX xs2)) ∧
    (s.natX xs2 ≤ 255 → 4096 ≤ s.natX xs1 → faultsAs (.sts xs1 xs2) s .addr (s.natX xs1)) ∧
    (s.natX xs2 ≤ 255 → s.natX xs1 < 4096 →
      ∃ t, exec (.sts xs1 xs2) s = .next t ∧ (t.symByte (s.natX xs1)).toNat = s.natX xs2 ∧
        (∀ a, a ≠ s.natX xs1 → t.symByte a = s.symByte a) ∧ t = { s with sym := t.sym, cp := s.cp + 1#32 })

/-- R140, R141 with R132, R133: `GFADD` is the exclusive or, `GFMUL` the field product; the first operand above 63 in
operand order is reported. -/
def Obligations.GfAddMul : Prop :=
  ∀ (xd xs1 xs2 : XReg) (s : State),
    decode (packR 0x10#8 (xslot xd) (xslot xs1) (xslot xs2) 0) = .ok (.gfadd xd xs1 xs2) ∧
    decode (packR 0x11#8 (xslot xd) (xslot xs1) (xslot xs2) 0) = .ok (.gfmul xd xs1 xs2) ∧
    (∀ i ∈ [Instr.gfadd xd xs1 xs2, Instr.gfmul xd xs1 xs2],
      (63 < s.natX xs1 → faultsAs i s .range (s.natX xs1)) ∧
      (s.natX xs1 ≤ 63 → 63 < s.natX xs2 → faultsAs i s .range (s.natX xs2))) ∧
    (s.natX xs1 ≤ 63 → s.natX xs2 ≤ 63 →
      exec (.gfadd xd xs1 xs2) s =
        .next { s with x := s.x.set xd.val (s.getX xs1 ^^^ s.getX xs2), cp := s.cp + 1#32 } ∧
      exec (.gfmul xd xs1 xs2) s =
        .next { s with x := s.x.set xd.val (gfScalar (gmul (scalarGF (s.getX xs1)) (scalarGF (s.getX xs2)))),
                       cp := s.cp + 1#32 })

/-- R142, R143 with R134, R135: `GFINV` and `GFDIV`; the range checks come first, then the zero check, of the divisor
also when the dividend is 0. -/
def Obligations.GfInvDiv : Prop :=
  ∀ (xd xs1 xs2 : XReg) (s : State),
    decode (packR 0x12#8 (xslot xd) (xslot xs1) 0 0) = .ok (.gfinv xd xs1) ∧
    decode (packR 0x13#8 (xslot xd) (xslot xs1) (xslot xs2) 0) = .ok (.gfdiv xd xs1 xs2) ∧
    (63 < s.natX xs1 → faultsAs (.gfinv xd xs1) s .range (s.natX xs1) ∧
      faultsAs (.gfdiv xd xs1 xs2) s .range (s.natX xs1)) ∧
    (s.natX xs1 = 0 → faultsAs (.gfinv xd xs1) s .gfZero 0) ∧
    (s.natX xs1 ≤ 63 → 63 < s.natX xs2 → faultsAs (.gfdiv xd xs1 xs2) s .range (s.natX xs2)) ∧
    (s.natX xs1 ≤ 63 → s.natX xs2 = 0 → faultsAs (.gfdiv xd xs1 xs2) s .gfZero 0) ∧
    (s.natX xs1 ≤ 63 → s.natX xs1 ≠ 0 → ∃ l, glog (scalarGF (s.getX xs1)) = some l ∧ exec (.gfinv xd xs1) s =
      .next { s with x := s.x.set xd.val (gfScalar (gexp (63 - l))), cp := s.cp + 1#32 }) ∧
    (s.natX xs1 ≤ 63 → s.natX xs2 ≤ 63 → s.natX xs2 ≠ 0 →
      ∃ l, glog (scalarGF (s.getX xs2)) = some l ∧ exec (.gfdiv xd xs1 xs2) s =
        .next { s with x := s.x.set xd.val (gfScalar (gmul (scalarGF (s.getX xs1)) (gexp (63 - l)))),
                       cp := s.cp + 1#32 })

/-- R144, R145 with R37, R38: `GFEXP` reads `EXP` at 0 to 63; `GFLOG` answers the exponent below 63 whose `EXP` is the
operand. -/
def Obligations.GfExpLog : Prop :=
  ∀ (xd xs1 : XReg) (s : State),
    decode (packR 0x14#8 (xslot xd) (xslot xs1) 0 0) = .ok (.gfexp xd xs1) ∧
    decode (packR 0x15#8 (xslot xd) (xslot xs1) 0 0) = .ok (.gflog xd xs1) ∧
    (63 < s.natX xs1 → faultsAs (.gfexp xd xs1) s .range (s.natX xs1) ∧ faultsAs (.gflog xd xs1) s .range (s.natX xs1)) ∧
    (s.natX xs1 = 0 → faultsAs (.gflog xd xs1) s .gfZero 0) ∧
    (s.natX xs1 ≤ 63 → exec (.gfexp xd xs1) s =
      .next { s with x := s.x.set xd.val (gfScalar (gexp (s.natX xs1))), cp := s.cp + 1#32 }) ∧
    (s.natX xs1 ≤ 63 → s.natX xs1 ≠ 0 → ∃ l, l < 63 ∧ gexp l = scalarGF (s.getX xs1) ∧ exec (.gflog xd xs1) s =
      .next { s with x := s.x.set xd.val (BitVec.ofNat 16 l), cp := s.cp + 1#32 })

/-- R165, R166, R167: `PZERO`, `PONE` and `PMONO`. -/
def Obligations.PolyConstants : Prop :=
  ∀ (pd : PReg) (xs1 xs2 : XReg) (s : State),
    decode (packR 0x20#8 (pslot pd) 0 0 0) = .ok (.pzero pd) ∧ decode (packR 0x21#8 (pslot pd) 0 0 0) = .ok (.pone pd) ∧
    decode (packR 0x22#8 (pslot pd) (xslot xs1) (xslot xs2) 0) = .ok (.pmono pd xs1 xs2) ∧
    exec (.pzero pd) s = .next { s with p := s.p.set pd.val [0], cp := s.cp + 1#32 } ∧
    exec (.pone pd) s = .next { s with p := s.p.set pd.val [1], cp := s.cp + 1#32 } ∧
    (63 < s.natX xs2 → faultsAs (.pmono pd xs1 xs2) s .range (s.natX xs2)) ∧
    (s.natX xs2 = 0 → exec (.pmono pd xs1 xs2) s = .next { s with p := s.p.set pd.val [0], cp := s.cp + 1#32 }) ∧
    (s.natX xs2 ≤ 63 → s.natX xs2 ≠ 0 → 128 ≤ s.natX xs1 →
      faultsAs (.pmono pd xs1 xs2) s .overflow (s.natX xs1 + 1)) ∧
    (s.natX xs2 ≤ 63 → s.natX xs2 ≠ 0 → s.natX xs1 < 128 → exec (.pmono pd xs1 xs2) s =
      .next { s with p := s.p.set pd.val (scalarGF (s.getX xs2) :: List.replicate (s.natX xs1) 0), cp := s.cp + 1#32 })

/-- R168, R169: `PLD` checks the length, the range, then the bytes in order, and loads the normalised sequence; `PST`
stores the coefficients, the highest degree at the lowest address, or faults on the range. -/
def Obligations.PolyMemory : Prop :=
  ∀ (pd : PReg) (xs1 xs2 : XReg) (s : State),
    decode (packR 0x23#8 (pslot pd) (xslot xs1) (xslot xs2) 0) = .ok (.pld pd xs1 xs2) ∧
    decode (packR 0x24#8 (pslot pd) (xslot xs1) 0 0) = .ok (.pst pd xs1) ∧
    (s.natX xs2 = 0 ∨ 128 < s.natX xs2 → faultsAs (.pld pd xs1 xs2) s .range (s.natX xs2)) ∧
    (1 ≤ s.natX xs2 → s.natX xs2 ≤ 128 → 4096 < s.natX xs1 + s.natX xs2 →
      faultsAs (.pld pd xs1 xs2) s .addr (s.natX xs1)) ∧
    (1 ≤ s.natX xs2 → s.natX xs2 ≤ 128 → s.natX xs1 + s.natX xs2 ≤ 4096 →
      (∀ j, firstBadAt s (s.natX xs1) (s.natX xs2) j →
        faultsAs (.pld pd xs1 xs2) s .range (s.symByte (s.natX xs1 + j)).toNat) ∧
      (fieldBytes s (s.natX xs1) (s.natX xs2) → exec (.pld pd xs1 xs2) s =
        .next { s with p := s.p.set pd.val (norm (symbols s (s.natX xs1) (s.natX xs2))), cp := s.cp + 1#32 })) ∧
    (¬ fits (s.natX xs1) (s.getP pd).length → faultsAs (.pst pd xs1) s .addr (s.natX xs1)) ∧
    (fits (s.natX xs1) (s.getP pd).length → ∃ t, exec (.pst pd xs1) s = .next t ∧
      (∀ j, j < (s.getP pd).length → t.symByte (s.natX xs1 + j) = gfByte ((s.getP pd).getD j 0)) ∧
      (∀ a, a < s.natX xs1 ∨ s.natX xs1 + (s.getP pd).length ≤ a → t.symByte a = s.symByte a) ∧
      t = { s with sym := t.sym, cp := s.cp + 1#32 })

/-- R170 to R175 with R152, R154: `PDEG`, `PEQ`, `PISZ` always complete; `PCOEF` reads by degree and answers 0 above it;
`PCIDX` reads by index and faults past the end; `PEVAL` answers the sum of each coefficient times the power of the point. -/
def Obligations.PolyReads : Prop :=
  ∀ (xd : XReg) (ps1 ps2 : PReg) (xs2 : XReg) (s : State),
    decode (packR 0x25#8 (xslot xd) (pslot ps1) 0 0) = .ok (.pdeg xd ps1) ∧
    decode (packR 0x26#8 (xslot xd) (pslot ps1) (xslot xs2) 0) = .ok (.pcoef xd ps1 xs2) ∧
    decode (packR 0x27#8 (xslot xd) (pslot ps1) (xslot xs2) 0) = .ok (.pcidx xd ps1 xs2) ∧
    decode (packR 0x28#8 (xslot xd) (pslot ps1) (pslot ps2) 0) = .ok (.peq xd ps1 ps2) ∧
    decode (packR 0x29#8 (xslot xd) (pslot ps1) 0 0) = .ok (.pisz xd ps1) ∧
    decode (packR 0x2A#8 (xslot xd) (pslot ps1) (xslot xs2) 0) = .ok (.peval xd ps1 xs2) ∧
    exec (.pdeg xd ps1) s =
      .next { s with x := s.x.set xd.val (BitVec.ofNat 16 ((s.getP ps1).length - 1)), cp := s.cp + 1#32 } ∧
    exec (.peq xd ps1 ps2) s =
      .next { s with x := s.x.set xd.val (if s.getP ps1 = s.getP ps2 then 1 else 0), cp := s.cp + 1#32 } ∧
    exec (.pisz xd ps1) s =
      .next { s with x := s.x.set xd.val (if s.getP ps1 = [0] then 1 else 0), cp := s.cp + 1#32 } ∧
    (s.natX xs2 < (s.getP ps1).length → exec (.pcoef xd ps1 xs2) s =
      .next { s with x := s.x.set xd.val (gfScalar ((s.getP ps1).getD ((s.getP ps1).length - 1 - s.natX xs2) 0)),
                     cp := s.cp + 1#32 }) ∧
    ((s.getP ps1).length ≤ s.natX xs2 →
      exec (.pcoef xd ps1 xs2) s = .next { s with x := s.x.set xd.val 0, cp := s.cp + 1#32 }) ∧
    (s.natX xs2 < (s.getP ps1).length → exec (.pcidx xd ps1 xs2) s =
      .next { s with x := s.x.set xd.val (gfScalar ((s.getP ps1).getD (s.natX xs2) 0)), cp := s.cp + 1#32 }) ∧
    ((s.getP ps1).length ≤ s.natX xs2 → faultsAs (.pcidx xd ps1 xs2) s .range (s.natX xs2)) ∧
    (63 < s.natX xs2 → faultsAs (.peval xd ps1 xs2) s .range (s.natX xs2)) ∧
    (s.natX xs2 ≤ 63 → exec (.peval xd ps1 xs2) s =
      .next { s with x := s.x.set xd.val (gfScalar (gfSum ((List.range (s.getP ps1).length).map fun i =>
                       gmul (coef (s.getP ps1) i) (gfPow (scalarGF (s.getX xs2)) i)))),
                     cp := s.cp + 1#32 })

/-- R176, R177, R178 with R155, R156, R157: `PADD`, `PMULS`, `PMUL` write the normalised sequence whose coefficients are the
sums, the multiples and the convolution of the sources'; `PMUL` faults exactly when both sources are non-zero and the
product would have more than 128 coefficients. -/
def Obligations.PolyArith : Prop :=
  ∀ (pd ps1 ps2 : PReg) (xs2 : XReg) (s : State),
    let a := s.getP ps1
    let b := s.getP ps2
    let writes := fun (i : Instr) (c : Nat → GF) => ∃ q, exec i s =
      .next { s with p := s.p.set pd.val q, cp := s.cp + 1#32 } ∧ norm q = q ∧ ∀ j, coef q j = c j
    decode (packR 0x2B#8 (pslot pd) (pslot ps1) (pslot ps2) 0) = .ok (.padd pd ps1 ps2) ∧
    decode (packR 0x2C#8 (pslot pd) (pslot ps1) (xslot xs2) 0) = .ok (.pmuls pd ps1 xs2) ∧
    decode (packR 0x2D#8 (pslot pd) (pslot ps1) (pslot ps2) 0) = .ok (.pmul pd ps1 ps2) ∧
    writes (.padd pd ps1 ps2) (fun j => coef a j ^^^ coef b j) ∧
    (63 < s.natX xs2 → faultsAs (.pmuls pd ps1 xs2) s .range (s.natX xs2)) ∧
    (s.natX xs2 ≤ 63 → writes (.pmuls pd ps1 xs2) (fun j => gmul (coef a j) (scalarGF (s.getX xs2)))) ∧
    (a ≠ [0] → b ≠ [0] → 128 < a.length + b.length - 1 →
      faultsAs (.pmul pd ps1 ps2) s .overflow (a.length + b.length - 1)) ∧
    (a = [0] ∨ b = [0] ∨ a.length + b.length - 1 ≤ 128 → writes (.pmul pd ps1 ps2)
      (fun j => gfSum ((List.range (j + 1)).map fun i => gmul (coef a i) (coef b (j - i)))))

/-- R179, R185: `PDIV` refuses one destination for both results, then a zero divisor, and else writes quotient and
remainder, both read from the sources as they were. -/
def Obligations.PdivEffect : Prop :=
  ∀ (pq ps1 ps2 pr : PReg) (s : State), s.PolyInv →
    decode (packR 0x2E#8 (pslot pq) (pslot ps1) (pslot ps2) (pslot pr)) = .ok (.pdiv pq ps1 ps2 pr) ∧
    (pq = pr → faultsAs (.pdiv pq ps1 ps2 pr) s .illegal
      (packR 0x2E#8 (pslot pq) (pslot ps1) (pslot ps2) (pslot pr)).toNat) ∧
    (pq ≠ pr → s.getP ps2 = [0] → faultsAs (.pdiv pq ps1 ps2 pr) s .polyDivZero 0) ∧
    (pq ≠ pr → s.getP ps2 ≠ [0] → ∃ q r, exec (.pdiv pq ps1 ps2 pr) s =
        .next { s with p := (s.p.set pq.val q).set pr.val r, cp := s.cp + 1#32 } ∧
      (q, r) = pdivmod (s.getP ps1) (s.getP ps2) ∧ padd (pmul q (s.getP ps2)) r = s.getP ps1 ∧
      (r = [0] ∨ deg r < deg (s.getP ps2)) ∧ norm q = q ∧ norm r = r)

/-- R193: `RSGEN` writes the generator, or faults above 63. -/
def Obligations.RsgenEffect : Prop :=
  ∀ (pd : PReg) (xs1 : XReg) (s : State),
    decode (packR 0x30#8 (pslot pd) (xslot xs1) 0 0) = .ok (.rsgen pd xs1) ∧
    (63 < s.natX xs1 → faultsAs (.rsgen pd xs1) s .range (s.natX xs1)) ∧
    (s.natX xs1 ≤ 63 → ∃ t, exec (.rsgen pd xs1) s = .next t ∧
      t = { s with p := s.p.set pd.val (genPoly (s.natX xs1)), gen := t.gen, cp := s.cp + 1#32 } ∧
      s.natX xs1 < t.gcnt)

/-- R194: `RSENC`, its checks in order, then the codeword at the destination, source and destination free to overlap. -/
def Obligations.RsencEffect : Prop :=
  ∀ (xs0 xs1 xs2 xs3 : XReg) (s : State),
    let dst := s.natX xs0
    let src := s.natX xs1
    let n := s.natX xs2
    let k := s.natX xs3
    let i := Instr.rsenc xs0 xs1 xs2 xs3
    decode (packR 0x31#8 (xslot xs0) (xslot xs1) (xslot xs2) (xslot xs3)) = .ok i ∧
    (n = 0 → faultsAs i s .range 0) ∧
    (n ≠ 0 → 63 < k → faultsAs i s .range k) ∧
    (n ≠ 0 → k ≤ 63 → 128 < n + k → faultsAs i s .range (n + k)) ∧
    (n ≠ 0 → k ≤ 63 → n + k ≤ 128 → ¬ fits src n → faultsAs i s .addr src) ∧
    (n ≠ 0 → k ≤ 63 → n + k ≤ 128 → fits src n → ¬ fits dst (n + k) → faultsAs i s .addr dst) ∧
    (n ≠ 0 → k ≤ 63 → n + k ≤ 128 → fits src n → fits dst (n + k) →
      (∀ j, firstBadAt s src n j → faultsAs i s .range (s.symByte (src + j)).toNat) ∧
      (fieldBytes s src n → ∃ t, exec i s = .next t ∧
        (∀ j, j < n → t.symByte (dst + j) = s.symByte (src + j)) ∧
        (∀ j, j < n + k → t.symByte (dst + j) = gfByte ((rsenc (symbols s src n) k).getD j 0)) ∧
        (∀ a, a < dst ∨ dst + (n + k) ≤ a → t.symByte a = s.symByte a) ∧
        t = { s with sym := t.sym, gen := t.gen, cp := s.cp + 1#32 }))

/-- R204: `RSSYN`, its checks in order, then the syndrome polynomial. -/
def Obligations.RssynEffect : Prop :=
  ∀ (pd : PReg) (xs1 xs2 xs3 : XReg) (s : State),
    let src := s.natX xs1
    let n := s.natX xs2
    let k := s.natX xs3
    let i := Instr.rssyn pd xs1 xs2 xs3
    decode (packR 0x32#8 (pslot pd) (xslot xs1) (xslot xs2) (xslot xs3)) = .ok i ∧
    (n = 0 ∨ 128 < n → faultsAs i s .range n) ∧
    (1 ≤ n → n ≤ 128 → 63 < k → faultsAs i s .range k) ∧
    (1 ≤ n → n ≤ 128 → k ≤ 63 → ¬ fits src n → faultsAs i s .addr src) ∧
    (1 ≤ n → n ≤ 128 → k ≤ 63 → fits src n →
      (∀ j, firstBadAt s src n j → faultsAs i s .range (s.symByte (src + j)).toNat) ∧
      (fieldBytes s src n → ∃ t, exec i s = .next t ∧ norm (t.getP pd) = t.getP pd ∧
        (∀ j, coef (t.getP pd) j = if j < k then ev (norm (symbols s src n)) (gexp j) else 0) ∧
        t = { s with p := s.p.set pd.val (t.getP pd), cp := s.cp + 1#32 }))

/-- R207, R208 with R205, R206: `RSKEY`, its checks in order, then the locator and the evaluator; they solve the key
equation, and the locator has the constant term 1. The command fails where the solution the loop ends with has the constant
term 0. -/
def Obligations.RskeyEffect : Prop :=
  ∀ (psigma ps1 : PReg) (xs2 : XReg) (pomega : PReg) (s : State),
    let k := s.natX xs2
    let sp := s.getP ps1
    let i := Instr.rskey psigma ps1 xs2 pomega
    decode (packR 0x33#8 (pslot psigma) (pslot ps1) (xslot xs2) (pslot pomega)) = .ok i ∧
    (psigma = pomega → faultsAs i s .illegal
      (packR 0x33#8 (pslot psigma) (pslot ps1) (xslot xs2) (pslot pomega)).toNat) ∧
    (psigma ≠ pomega → k = 0 ∨ 63 < k → faultsAs i s .range k) ∧
    (psigma ≠ pomega → 1 ≤ k → k ≤ 63 → k ≤ deg sp → faultsAs i s .range (deg sp)) ∧
    (psigma ≠ pomega → 1 ≤ k → k ≤ 63 → deg sp < k →
      (∀ f, key sp k = .error f → faultsAs i s .rsFail 1 ∧
        (s.PolyInv → ∃ a r, norm a = a ∧ a ≠ [0] ∧ coef a 0 = 0 ∧ solvesKey sp k a r)) ∧
      (∀ sigma omega, key sp k = .ok (sigma, omega) → coef sigma 0 = 1 ∧
        (s.PolyInv → solvesKey sp k sigma omega) ∧ exec i s =
        .next { s with p := (s.p.set psigma.val sigma).set pomega.val omega, cp := s.cp + 1#32 }))

/-- R211, R209: `RSROOT` stores the inverses of the roots in ascending order of the root and their count, or fails. -/
def Obligations.RsrootEffect : Prop :=
  ∀ (xd : XReg) (ps1 : PReg) (xs2 : XReg) (s : State),
    let dst := s.natX xs2
    let sigma := s.getP ps1
    let xl := ((List.range 63).filter fun b => ev sigma (BitVec.ofNat 6 (b + 1)) = 0).map
      fun b => ginv (BitVec.ofNat 6 (b + 1))
    let i := Instr.rsroot xd ps1 xs2
    decode (packR 0x34#8 (xslot xd) (pslot ps1) (xslot xs2) 0) = .ok i ∧
    (xl.length ≠ deg sigma → faultsAs i s .rsFail 2) ∧
    (xl.length = deg sigma → ¬ fits dst xl.length → faultsAs i s .addr dst) ∧
    (xl.length = deg sigma → fits dst xl.length → ∃ t, exec i s = .next t ∧
      (∀ j, j < xl.length → t.symByte (dst + j) = gfByte (xl.getD j 0)) ∧
      (∀ a, a < dst ∨ dst + xl.length ≤ a → t.symByte a = s.symByte a) ∧
      t = { s with sym := t.sym, x := s.x.set xd.val (BitVec.ofNat 16 xl.length), cp := s.cp + 1#32 })

/-- R214, R212: `RSMAG`, its checks in order, then the magnitudes by Forney's formula. -/
def Obligations.RsmagEffect : Prop :=
  ∀ (xs0 : XReg) (ps1 : PReg) (xs2 xs3 : XReg) (s : State),
    let dst := s.natX xs0
    let src := s.natX xs2
    let m := s.natX xs3
    let xl := symbols s src m
    let den := fun a => (List.range m).foldl
      (fun d b => if b = a then d else gmul d (1 ^^^ gmul (ginv (xl.getD a 0)) (xl.getD b 0))) 1
    let i := Instr.rsmag xs0 ps1 xs2 xs3
    decode (packR 0x35#8 (xslot xs0) (pslot ps1) (xslot xs2) (xslot xs3)) = .ok i ∧
    (63 < m → faultsAs i s .range m) ∧
    (m ≤ 63 → ¬ fits src m → faultsAs i s .addr src) ∧
    (m ≤ 63 → fits src m → ¬ fits dst m → faultsAs i s .addr dst) ∧
    (m ≤ 63 → fits src m → fits dst m →
      (∀ j, j < m → fieldBytes s src j → (∀ h, h < j → s.symByte (src + h) ≠ 0) →
        (63 < (s.symByte (src + j)).toNat → faultsAs i s .range (s.symByte (src + j)).toNat) ∧
        (s.symByte (src + j) = 0 → faultsAs i s .gfZero 0)) ∧
      (fieldBytes s src m → (∀ j, j < m → s.symByte (src + j) ≠ 0) →
        ((∃ j, j < m ∧ den j = 0) → faultsAs i s .gfZero 0) ∧
        ((∀ j, j < m → den j ≠ 0) → ∃ t, exec i s = .next t ∧
          (∀ j, j < m → t.symByte (dst + j) =
            gfByte (gmul (ev (s.getP ps1) (ginv (xl.getD j 0))) (ginv (den j)))) ∧
          (∀ a, a < dst ∨ dst + m ≤ a → t.symByte a = s.symByte a) ∧
          t = { s with sym := t.sym, cp := s.cp + 1#32 })))

/-- R218, R217: `RSDEC`, its checks in order, then the corrected array and its count, or the failure mode. -/
def Obligations.RsdecEffect : Prop :=
  ∀ (xs0 xs1 xs2 xs3 : XReg) (s : State),
    let dst := s.natX xs0
    let src := s.natX xs1
    let n := s.natX xs2
    let k := s.natX xs3
    let i := Instr.rsdec xs0 xs1 xs2 xs3
    decode (packR 0x36#8 (xslot xs0) (xslot xs1) (xslot xs2) (xslot xs3)) = .ok i ∧
    (n = 0 ∨ 128 < n → faultsAs i s .range n) ∧
    (1 ≤ n → n ≤ 128 → 63 < k → faultsAs i s .range k) ∧
    (1 ≤ n → n ≤ 128 → k ≤ 63 → ¬ fits src n → faultsAs i s .addr src) ∧
    (1 ≤ n → n ≤ 128 → k ≤ 63 → fits src n → ¬ fits dst n → faultsAs i s .addr dst) ∧
    (1 ≤ n → n ≤ 128 → k ≤ 63 → fits src n → fits dst n →
      (∀ j, firstBadAt s src n j → faultsAs i s .range (s.symByte (src + j)).toNat) ∧
      (fieldBytes s src n →
        (∀ f, rsdec (symbols s src n) k = .error f → faultsAs i s .rsFail (rsFailNumber f)) ∧
        (∀ out cnt, rsdec (symbols s src n) k = .ok (out, cnt) → ∃ t, exec i s = .next t ∧
          (∀ j, j < n → t.symByte (dst + j) = gfByte (out.getD j 0)) ∧
          (∀ a, a < dst ∨ dst + n ≤ a → t.symByte a = s.symByte a) ∧
          t = { s with sym := t.sym, ncorr := BitVec.ofNat 32 cnt, cp := s.cp + 1#32 })))

/-- R240, R233 to R238: `CENC`, its checks in order, then the code at the destination and its side, version and parity. -/
def Obligations.CencEffect : Prop :=
  ∀ (xs0 xs1 xs2 : XReg) (s : State),
    let dst := s.natX xs0
    let src := s.natX xs1
    let len := s.natX xs2
    let ms := minSize len s.eclvl
    let side := sideFor ms
    let parity := finalParity len s.eclvl
    let pay := s.symBytes src len
    let i := Instr.cenc xs0 xs1 xs2
    decode (packR 0x38#8 (xslot xs0) (xslot xs1) (xslot xs2) 0) = .ok i ∧
    (len = 0 → faultsAs i s .emptyPayload 0) ∧
    (len ≠ 0 → levelOk s.eclvl = false → faultsAs i s .ecLevel 0) ∧
    (len ≠ 0 → levelOk s.eclvl = true → 64 < ms → faultsAs i s .tooBig ms) ∧
    (len ≠ 0 → levelOk s.eclvl = true → ms ≤ 64 →
      ms ≤ side * side ∧ (∀ w, w < side → w * w < ms) ∧
      (¬ fits src len → faultsAs i s .addr src) ∧
      (fits src len → ¬ fits dst (side * side) → faultsAs i s .addr dst) ∧
      (fits src len → fits dst (side * side) →
        (∀ j, j < len → (∀ h, h < j → payIndex (s.symByte (src + h)) ≠ none) →
          payIndex (s.symByte (src + j)) = none → faultsAs i s .badChar j) ∧
        ((∀ j, j < len → payIndex (s.symByte (src + j)) ≠ none) → ∃ t, exec i s = .next t ∧
          (∀ j, j < side * side → t.symByte (dst + j) =
            gfByte ((rsenc (codeData pay (side * side - parity)) parity).getD j 0)) ∧
          (∀ a, a < dst ∨ dst + side * side ≤ a → t.symByte a = s.symByte a) ∧
          t = { s with sym := t.sym, gen := t.gen, codeSize := BitVec.ofNat 32 side, codeVer := 1#32,
                       par := BitVec.ofNat 32 parity, cp := s.cp + 1#32 })))

/-- R250, R245 to R247: `CDEC`, its checks in order, then the characters and the four CSRs. Where the derived parity count is
above 64 (sides 9 to 11), the decoder's points from 64 on are the model's free values (log 13, DESIGN CHOICE). -/
def Obligations.CdecEffect : Prop :=
  ∀ (xs0 xs1 xs2 : XReg) (s : State),
    let dst := s.natX xs0
    let src := s.natX xs1
    let n := s.natX xs2
    let size := s.codeSize.toNat
    let data := s.symBytes src n
    let len := (data.getD 1 0).toNat
    let parity := n - 2 - len - (n - 2 - len) % 2
    let i := Instr.cdec xs0 xs1 xs2
    let stored := fun (out : List GF) (cnt : Nat) => ∃ t, exec i s = .next t ∧
      (∀ j, j < len → t.symByte (dst + j) = alphaChar (out.getD (2 + j) 0)) ∧
      (∀ a, a < dst ∨ dst + len ≤ a → t.symByte a = s.symByte a) ∧
      t = { s with sym := t.sym, codeVer := 1#32, plen := BitVec.ofNat 32 len, par := BitVec.ofNat 32 parity,
                   ncorr := BitVec.ofNat 32 cnt, cp := s.cp + 1#32 }
    decode (packR 0x39#8 (xslot xs0) (xslot xs1) (xslot xs2) 0) = .ok i ∧
    (n = 0 ∨ 128 < n → faultsAs i s .range n) ∧
    (1 ≤ n → n ≤ 128 → size * size ≠ n → faultsAs i s .notSquare size) ∧
    (1 ≤ n → n ≤ 128 → size * size = n → ¬ fits src n → faultsAs i s .addr src) ∧
    (1 ≤ n → n ≤ 128 → size * size = n → fits src n →
      (data.getD 0 0 ≠ 1 → faultsAs i s .invalidCode 1) ∧
      (data.getD 0 0 = 1 → ¬ (1 ≤ len ∧ len + 2 ≤ n) → faultsAs i s .invalidCode 2) ∧
      (data.getD 0 0 = 1 → 1 ≤ len → len + 2 ≤ n →
        (parity = 0 → ¬ fits dst len → faultsAs i s .addr dst) ∧
        (parity = 0 → fits dst len → ¬ fieldBytes s (src + 2) len → faultsAs i s .invalidCode 5) ∧
        (parity = 0 → fits dst len → fieldBytes s (src + 2) len → stored (symbols s src n) 0) ∧
        (parity ≠ 0 → ¬ fieldBytes s src n → faultsAs i s .invalidCode 5) ∧
        (parity ≠ 0 → fieldBytes s src n →
          (∀ f, rsdec (symbols s src n) parity = .error f → faultsAs i s .invalidCode (0x10 + rsFailNumber f)) ∧
          (∀ out cnt, rsdec (symbols s src n) parity = .ok (out, cnt) →
            (gfByte (out.getD 0 0) ≠ data.getD 0 0 ∨ gfByte (out.getD 1 0) ≠ data.getD 1 0 →
              faultsAs i s .invalidCode 4) ∧
            (gfByte (out.getD 0 0) = data.getD 0 0 → gfByte (out.getD 1 0) = data.getD 1 0 →
              (¬ fits dst len → faultsAs i s .addr dst) ∧ (fits dst len → stored out cnt))))))

/-- R282, R281, R283: `LUMA` checks the dimensions and writes the luma of every pixel, inverted channels where `INV` is
set. -/
def Obligations.LumaEffect : Prop :=
  decode (packR 0x40#8 0 0 0 0) = .ok .luma ∧
  ∀ s : State,
    (Config.wmax < s.width → faultsAs .luma s .range s.width) ∧
    (s.width ≤ Config.wmax → Config.hmax < s.height → faultsAs .luma s .range s.height) ∧
    (dimsOk s → ∃ t, exec .luma s = .next t ∧
      (∀ x y, x < s.width → y < s.height → t.lumByte (y * s.width + x) =
        lumaOf (channel s (s.imgByte (4 * (y * s.width + x)))) (channel s (s.imgByte (4 * (y * s.width + x) + 1)))
          (channel s (s.imgByte (4 * (y * s.width + x) + 2)))) ∧
      (∀ k, s.width * s.height ≤ k → t.lumByte k = s.lumByte k) ∧
      t = { s with lum := t.lum, cp := s.cp + 1#32 })

/-- R284, R287, R285, R286: `THRESH` checks the dimensions, then the minimum size, and writes the threshold table. -/
def Obligations.ThreshEffect : Prop :=
  decode (packR 0x41#8 0 0 0 0) = .ok .thresh ∧
  ∀ s : State,
    (Config.wmax < s.width → faultsAs .thresh s .range s.width) ∧
    (s.width ≤ Config.wmax → Config.hmax < s.height → faultsAs .thresh s .range s.height) ∧
    (dimsOk s → s.width < 80 → faultsAs .thresh s .imgSmall s.width) ∧
    (dimsOk s → 80 ≤ s.width → s.height < 80 → faultsAs .thresh s .imgSmall s.height) ∧
    (dimsOk s → 80 ≤ s.width → 80 ≤ s.height → ∃ t, exec .thresh s = .next t ∧
      (∀ x y, x < s.width - 79 → y < s.height - 79 → t.thrCell (y * (s.width - 79) + x) =
        Fp.sub (Fp.div (Fp.ofNat (lumBlock s x y)) (Fp.ofNat 6400)) (Fp.ofNat 2)) ∧
      (∀ k, (s.width - 79) * (s.height - 79) ≤ k → t.thrCell k = s.thrCell k) ∧
      t = { s with thr := t.thr, cp := s.cp + 1#32 })

/-- R292, R289, R290, R291: `BINZ` checks as `THRESH` does and writes 1 where the luma is below the threshold decided for
the pixel from its block or, in a flat region, from its three neighbours. -/
def Obligations.BinzEffect : Prop :=
  decode (packR 0x42#8 0 0 0 0) = .ok .binz ∧
  ∀ s : State,
    (Config.wmax < s.width → faultsAs .binz s .range s.width) ∧
    (s.width ≤ Config.wmax → Config.hmax < s.height → faultsAs .binz s .range s.height) ∧
    (dimsOk s → s.width < 80 → faultsAs .binz s .imgSmall s.width) ∧
    (dimsOk s → 80 ≤ s.width → s.height < 80 → faultsAs .binz s .imgSmall s.height) ∧
    (dimsOk s → 80 ≤ s.width → 80 ≤ s.height → ∃ t d, exec .binz s = .next t ∧ decided s d ∧
      (∀ x y, x < s.width → y < s.height → t.bitCell (y * s.width + x) = Fp.lt (lumAt s x y) (d x y)) ∧
      (∀ k, s.width * s.height ≤ k → t.bitCell k = s.bitCell k) ∧
      t = { s with bit := t.bit, cp := s.cp + 1#32 })

/-- R295: `BINARIZE` makes the checks of `THRESH` first, and its end state but for `CP` is that of `LUMA`, `THRESH`, `BINZ`
run one after the other. -/
def Obligations.BinarizeEffect : Prop :=
  decode (packR 0x43#8 0 0 0 0) = .ok .binarize ∧
  ∀ s : State,
    (Config.wmax < s.width → faultsAs .binarize s .range s.width) ∧
    (s.width ≤ Config.wmax → Config.hmax < s.height → faultsAs .binarize s .range s.height) ∧
    (dimsOk s → s.width < 80 → faultsAs .binarize s .imgSmall s.width) ∧
    (dimsOk s → 80 ≤ s.width → s.height < 80 → faultsAs .binarize s .imgSmall s.height) ∧
    (dimsOk s → 80 ≤ s.width → 80 ≤ s.height → ∃ t1 t2 t3,
      exec .luma s = .next t1 ∧ exec .thresh t1 = .next t2 ∧ exec .binz t2 = .next t3 ∧
      exec .binarize s = .next { t3 with cp := s.cp + 1#32 })

/-- R320, R326, R328 with R313, R319, R321, R324: `LOCF`, `LOCA` and `LOCATE` check the dimensions; `LOCF` writes the record of three
finders, or reports how many it found; `LOCA` needs finite finders and adopts the first candidate of the lowest error within the
size window, or keeps the estimate; `LOCATE` is `LOCF` then `LOCA` as one command. The orientation of the three finders is
`Obligations.LocfOrientation`. -/
def Obligations.LocatorEffects : Prop :=
  decode (packR 0x48#8 0 0 0 0) = .ok .locf ∧ decode (packR 0x49#8 0 0 0 0) = .ok .loca ∧
  decode (packR 0x4A#8 0 0 0 0) = .ok .locate ∧
  ∀ s : State,
    (∀ i ∈ [Instr.locf, Instr.loca, Instr.locate],
      (Config.wmax < s.width → faultsAs i s .range s.width) ∧
      (s.width ≤ Config.wmax → Config.hmax < s.height → faultsAs i s .range s.height)) ∧
    (dimsOk s → ∀ c n, findFinders s.bitGrid s.pl = .error (c, n) →
      faultsAs .locf s c n ∧ faultsAs .locate s c n ∧ (c = .noFinders ∨ c = .noValidFinders) ∧ n ≤ 2) ∧
    (dimsOk s → ∀ pl, findFinders s.bitGrid s.pl = .ok pl →
      exec .locf s = .next { s with pl := pl, cp := s.cp + 1#32 } ∧
      pl.br = s.pl.br ∧ pl.asize = s.pl.asize ∧ threeFinders s pl) ∧
    (dimsOk s → locaFinite s.pl = false → faultsAs .loca s .range 0) ∧
    (dimsOk s → locaFinite s.pl = true → ∃ t, exec .loca s = .next t ∧
      t = { s with pl := { s.pl with br := t.pl.br, asize := t.pl.asize }, cp := s.cp + 1#32 } ∧
      ((∀ c ∈ alignCands s.bitGrid s.pl, adoptable (expectedSize s.pl) c = false) →
        t.pl.br = estimateBr s.pl ∧ t.pl.asize = expectedSize s.pl) ∧
      ((∃ c ∈ alignCands s.bitGrid s.pl, adoptable (expectedSize s.pl) c = true) →
        ∃ c, adopts (expectedSize s.pl) (alignCands s.bitGrid s.pl) c ∧ t.pl.br = c.centre ∧ t.pl.asize = c.size)) ∧
    (dimsOk s → ∀ pl, findFinders s.bitGrid s.pl = .ok pl → locaFinite pl = true →
      ∃ t1 t2, exec .locf s = .next t1 ∧ exec .loca t1 = .next t2 ∧
        exec .locate s = .next { t2 with cp := s.cp + 1#32 })

/-- R350, R340 to R348: `XFORM`, its checks in order, then the matrix, the side and the resampled cells; a NaN entry of the
matrix is stored as some NaN (U13, log 2). -/
def Obligations.XformEffect : Prop :=
  decode (packR 0x50#8 0 0 0 0) = .ok .xform ∧
  ∀ s : State,
    let v := rectSide s.pl
    let finite := xformFinite s.pl
    (Config.wmax < s.width → faultsAs .xform s .range s.width) ∧
    (s.width ≤ Config.wmax → Config.hmax < s.height → faultsAs .xform s .range s.height) ∧
    (dimsOk s → finite = false → faultsAs .xform s .range 0) ∧
    (dimsOk s → finite = true → Fp.isInf v = true → faultsAs .xform s .range (2 ^ 32 - 1)) ∧
    (dimsOk s → finite = true → Fp.isFinite v = true → Fp.floor v < 1 → faultsAs .xform s .range 0) ∧
    (dimsOk s → finite = true → Fp.isFinite v = true → ∀ n : Nat, Fp.floor v = n → Config.rmax < n →
      faultsAs .xform s .range (min n (2 ^ 32 - 1))) ∧
    (dimsOk s → finite = true → Fp.isFinite v = true → ∀ n : Nat, Fp.floor v = n → 1 ≤ n → n ≤ Config.rmax →
      ∃ t, exec .xform s = .next t ∧
        (∀ k : Fin 9, if Fp.isNan (xformMat s.pl n)[k] = true then Fp.isNan t.m[k] = true
          else t.m[k] = (xformMat s.pl n)[k]) ∧
        (∀ x y, x < n → y < n →
          t.rctCell (y * n + x) = sampled s (applyMat (xformMat s.pl n) (Fp.ofNat x) (Fp.ofNat y))) ∧
        (∀ k, n * n ≤ k → t.rctCell k = s.rctCell k) ∧
        t = { s with m := t.m, rct := t.rct, nans := t.nans, rectN := BitVec.ofNat 32 n, cp := s.cp + 1#32 })

/-- R370, R352 to R367: `EXTRACT`, its checks in order, then one symbol per cell, column by column, the side, and the first
symbol as the version. -/
def Obligations.ExtractEffect : Prop :=
  ∀ (xs0 : XReg) (s : State),
    let dst := s.natX xs0
    let n := s.rectN.toNat
    let i := Instr.extract xs0
    decode (packR 0x51#8 (xslot xs0) 0 0 0) = .ok i ∧
    (n = 0 ∨ Config.rmax < n → faultsAs i s .range n) ∧
    (1 ≤ n → n ≤ Config.rmax →
      (radii s.rctGrid = [] → faultsAs i s .invalidCode 6) ∧
      (radii s.rctGrid ≠ [] → cellCount n (scaleOf (radii s.rctGrid)) = none → faultsAs i s .invalidCode 7) ∧
      (radii s.rctGrid ≠ [] → ∀ cells, cellCount n (scaleOf (radii s.rctGrid)) = some cells →
        1 ≤ cells ∧ cells ≤ 64 ∧
        (¬ fits dst (cells * cells) → faultsAs i s .addr dst) ∧
        (fits dst (cells * cells) → ∃ t, exec i s = .next t ∧
          (∀ col row, col < cells → row < cells → t.symByte (dst + (col * cells + row)) =
            gfByte (cellSymbol s.rctGrid Config.unitDimThreshold Config.gapDimThreshold
              (scaleOf (radii s.rctGrid)) col row)) ∧
          (∀ a, a < dst ∨ dst + cells * cells ≤ a → t.symByte a = s.symByte a) ∧
          t = { s with sym := t.sym, codeSize := BitVec.ofNat 32 cells, codeVer := (t.symByte dst).setWidth 32,
                       cp := s.cp + 1#32 })))

/-- R272, R261 to R270: `RENDER`, its checks in order, then the drawing as a bit matrix and as RGBA bytes. -/
def Obligations.RenderEffect : Prop :=
  ∀ (xs1 : XReg) (s : State),
    let src := s.natX xs1
    let side := s.codeSize.toNat
    let r := s.res.toNat
    let i := Instr.render xs1
    decode (packR 0x58#8 0 (xslot xs1) 0 0) = .ok i ∧
    (side = 0 ∨ 64 < side → faultsAs i s .range side) ∧
    (1 ≤ side → side ≤ 64 → Config.wmax < r ∨ Config.hmax < r → faultsAs i s .range r) ∧
    (1 ≤ side → side ≤ 64 → r ≤ Config.wmax → r ≤ Config.hmax →
      (¬ fits src (side * side) → faultsAs i s .addr src) ∧
      (fits src (side * side) →
        (∀ j, firstBadAt s src (side * side) j → faultsAs i s .range (s.symByte (src + j)).toNat) ∧
        (fieldBytes s src (side * side) →
          (r < 28 * side + 82 → faultsAs i s .resSmall (28 * side + 82)) ∧
          (28 * side + 82 ≤ r → ∃ t, exec i s = .next t ∧
            (∀ x y, x < r → y < r → (t.bitCell (y * r + x) = true ↔ drawnBlack s src x y)) ∧
            (∀ x y c, x < r → y < r → c < 4 → t.imgByte (4 * (y * r + x) + c) =
              if c = 3 then 255 else if t.bitCell (y * r + x) = true then 0 else 255) ∧
            (∀ k, r * r ≤ k → t.bitCell k = s.bitCell k) ∧ (∀ k, 4 * (r * r) ≤ k → t.imgByte k = s.imgByte k) ∧
            t = { s with bit := t.bit, img := t.img, imgW := s.res, imgH := s.res, cp := s.cp + 1#32 }))))

/-! Laws of the functions the commands compute. -/

/-- R37, R38, R139: `EXP` doubles with the reduction by 0x43, `LOG` is its inverse over the non-zero elements, and the
product through the tables is the carry-less product reduced by 0x43. -/
def Obligations.FieldTables : Prop :=
  gexp 0 = 1 ∧
  (∀ i, i < 63 → (gexp (i + 1)).toNat =
    if (gexp i).toNat * 2 < 64 then (gexp i).toNat * 2 else (gexp i).toNat * 2 ^^^ 0x43) ∧
  (∀ i, i < 63 → glog (gexp i) = some i) ∧ (∀ v : GF, v ≠ 0 → ∃ l, l < 63 ∧ glog v = some l ∧ gexp l = v) ∧
  ∀ x y : GF, gmul x y = (reduce43 (carryless (x.setWidth 11) (y.setWidth 11))).setWidth 6

/-- R138: the field laws the document requires; that the inverse of 0 fails is `GFINV`'s fault. -/
def Obligations.FieldLaws : Prop :=
  (∀ x y z : GF, x ^^^ 0 = x ∧ (x ≠ 0 → gmul x (ginv x) = 1) ∧ gmul x (gmul y z) = gmul (gmul x y) z ∧
    gmul x (y ^^^ z) = gmul x y ^^^ gmul x z ∧ (y ≠ 0 → gdiv 0 y = 0)) ∧
  ∀ (xd xs1 : XReg) (s : State), s.natX xs1 = 0 → faultsAs (.gfinv xd xs1) s .gfZero 0

/-- R160: the polynomial laws the document requires. -/
def Obligations.PolyLaws : Prop :=
  ∀ (a b : Poly) (v : GF), polyLegal a → polyLegal b →
    ev a v = gfSum ((List.range a.length).map fun i => gmul (coef a i) (gfPow v i)) ∧
    ev (pmul a b) v = gmul (ev a v) (ev b v) ∧
    (b ≠ [0] → padd (pmul (pdivmod a b).1 b) (pdivmod a b).2 = a) ∧
    pmul a [1] = a ∧ padd a a = [0]

/-- R195: a fresh codeword is the data with `k` cells behind it, is a multiple of the generator, and evaluates to 0 at the
first `k` powers of alpha; the parity of all-zero data is all zero. -/
def Obligations.CodewordRoots : Prop :=
  ∀ (data : List GF) (k : Nat), 1 ≤ data.length → k ≤ 63 →
    (rsenc data k).length = data.length + k ∧ (rsenc data k).take data.length = data ∧
    (∃ q, pmul q (genPoly k) = norm (rsenc data k)) ∧
    (∀ i, i < k → ev (norm (rsenc data k)) (gexp i) = 0) ∧
    (data = List.replicate data.length 0 → rsenc data k = List.replicate (data.length + k) 0)

/-- R203, R219 (a): a word without syndromes is returned as it is with nothing corrected, and every codeword of the encoder
is such; so is, as R219 (a) derives, a word whose syndrome polynomial is a non-zero constant. -/
def Obligations.CleanWords : Prop :=
  (∀ (cw : List GF) (k : Nat), syn cw k = [0] → rsdec cw k = .ok (cw, 0)) ∧
  (∀ (data : List GF) (k : Nat), 1 ≤ data.length → k ≤ 63 → syn (rsenc data k) k = [0] ∧
    rsdec (rsenc data k) k = .ok (rsenc data k, 0)) ∧
  ∀ (cw : List GF) (k : Nat) (c : GF), 1 ≤ k → c ≠ 0 → syn cw k = [c] → rsdec cw k = .ok (cw, 0)

/-- R251 (a), R236: the decoder accepts every array the encoder makes from an accepted payload, derives the encoder's
parity count, corrects nothing, and its characters are the upper-cased payload. -/
def Obligations.ContentRoundTrip : Prop :=
  ∀ (pay : List Byte) (ec : F64), pay ≠ [] → levelOk ec = true → minSize pay.length ec ≤ 64 →
    (∀ c ∈ pay, payIndex c ≠ none) →
    let side := sideFor (minSize pay.length ec)
    let parity := finalParity pay.length ec
    let code := (rsenc (codeData pay (side * side - parity)) parity).map gfByte
    code.length = side * side ∧ cdecCheck code = .ok (pay.length, parity, 0, code) ∧
      ((code.drop 2).take pay.length).map (fun v => alphaChar (byteGF v)) = pay.map upper

/-- R13, R17: addition, subtraction, multiplication, division and square root of finite values give the exact result, sign
included, rounded once to nearest even; an exact zero sum is +0.0 unless both its terms are negative. That `NUM` is binary64 is
log 1; R13 names it. -/
def Obligations.NumRoundsToNearest : Prop :=
  (∀ (sgn : Bool) (num den : Nat), 0 < den → roundedOnce (Fp.round sgn num den) sgn num den) ∧
  (∀ a b : F64, Fp.isFinite a = true → Fp.isFinite b = true →
    (Fp.units a + Fp.units b ≠ 0 →
      roundedOnce (Fp.add a b) (decide (Fp.units a + Fp.units b < 0)) (Fp.units a + Fp.units b).natAbs 1) ∧
    (Fp.units a + Fp.units b = 0 → Fp.add a b = if Fp.isNeg a = true ∧ Fp.isNeg b = true then 1#64 <<< 63 else 0#64) ∧
    (Fp.units a - Fp.units b ≠ 0 →
      roundedOnce (Fp.sub a b) (decide (Fp.units a - Fp.units b < 0)) (Fp.units a - Fp.units b).natAbs 1) ∧
    (Fp.units a - Fp.units b = 0 → Fp.sub a b = if Fp.isNeg a = true ∧ Fp.isNeg b = false then 1#64 <<< 63 else 0#64) ∧
    roundedOnce (Fp.mul a b) (Fp.isNeg a != Fp.isNeg b) (Fp.mag a * Fp.mag b) Fp.oneUnits ∧
    (Fp.mag b ≠ 0 → roundedOnce (Fp.div a b) (Fp.isNeg a != Fp.isNeg b) (Fp.mag a * Fp.oneUnits) (Fp.mag b))) ∧
  ∀ a : F64, Fp.isFinite a = true → Fp.isNeg a = false → Fp.mag a ≠ 0 →
    Fp.isFinite (Fp.sqrt a) = true ∧ Fp.isNeg (Fp.sqrt a) = false ∧
    ∀ c : F64, Fp.isFinite c = true →
      (Fp.mag c < Fp.mag (Fp.sqrt a) → (Fp.mag c + Fp.mag (Fp.sqrt a)) ^ 2 ≤ 4 * (Fp.mag a * Fp.oneUnits)) ∧
      (Fp.mag (Fp.sqrt a) < Fp.mag c → 4 * (Fp.mag a * Fp.oneUnits) ≤ (Fp.mag c + Fp.mag (Fp.sqrt a)) ^ 2) ∧
      (Fp.mag c ≠ Fp.mag (Fp.sqrt a) → (Fp.mag c + Fp.mag (Fp.sqrt a)) ^ 2 = 4 * (Fp.mag a * Fp.oneUnits) →
        Fp.fracField (Fp.sqrt a) % 2 = 0)

/-- R319, R329 (a): the finders `LOCF` writes are finite points, and the cross product of `TR - BL` and `TL - BL`, computed
exactly, is not positive: `TL`, `TR`, `BL` go clockwise in image coordinates. -/
def Obligations.LocfOrientation : Prop :=
  ∀ (s : State) (pl : Patterns), dimsOk s → findFinders s.bitGrid s.pl = .ok pl →
    let u := Fp.units
    exec .locf s = .next { s with pl := pl, cp := s.cp + 1#32 } ∧
    (∀ q ∈ [pl.tl, pl.tr, pl.bl], Fp.isFinite q.x = true ∧ Fp.isFinite q.y = true) ∧
    (u pl.tr.x - u pl.bl.x) * (u pl.tl.y - u pl.bl.y) - (u pl.tr.y - u pl.bl.y) * (u pl.tl.x - u pl.bl.x) ≤ 0
end

