-- ==== Sys2Proof/Laws/Fp.lean ====
section
/-! SUPPORT. The whole square root under the `NUM` square root. -/

namespace Sys2Proof.Machine

/-- With rounds enough, the iteration from above ends at the whole root. -/
theorem Fp.isqrtFrom_eq (n s : Nat) (hpos : 0 < s) (hs : s * s ≤ n) (hn : n < (s + 1) * (s + 1)) :
    ∀ fuel x, s ≤ x → x < s + 2 ^ fuel → Fp.isqrtFrom n fuel x = s
  | 0, x, hx, hlt => by simp only [Fp.isqrtFrom]; omega
  | fuel + 1, x, hx, hlt => by
    have hx0 : 0 < x := by omega
    simp only [Fp.isqrtFrom]
    split
    case isTrue h =>
      have hne : x ≠ s := by
        rintro rfl
        have : x ≤ n / x := (Nat.le_div_iff_mul_le hx0).2 hs
        omega
      have hq : n / x ≤ s := by
        refine Nat.le_of_lt_succ ((Nat.div_lt_iff_lt_mul hx0).2 (Nat.lt_of_lt_of_le hn ?_))
        exact Nat.mul_le_mul_left _ (by omega)
      refine Fp.isqrtFrom_eq n s hpos hs hn fuel _ ?_ (by rw [Nat.pow_succ] at hlt; omega)
      by_contra hc
      have h1 : n < x * (n / x + 1) := Nat.lt_mul_div_succ n hx0
      have h2 : x + n / x + 1 ≤ 2 * s := by omega
      nlinarith [sq_nonneg ((x : Int) - (n / x + 1 : Nat))]
    case isFalse h =>
      have : x ≤ n / x := by omega
      have : x * x ≤ n := (Nat.le_div_iff_mul_le hx0).1 this
      nlinarith

/-- All that the whole square root is. -/
theorem Fp.isqrt_spec (n : Nat) : Fp.isqrt n * Fp.isqrt n ≤ n ∧ n < (Fp.isqrt n + 1) * (Fp.isqrt n + 1) := by
  rcases Nat.eq_zero_or_pos n with rfl | hn
  · decide
  · have hs := Nat.sqrt_le n
    have hpos : 0 < Nat.sqrt n := Nat.sqrt_pos.2 hn
    have e : Fp.isqrt n = Nat.sqrt n := by
      simp only [Fp.isqrt, Nat.pos_iff_ne_zero.1 hn, if_false]
      have hlog : n < 2 ^ (n.log2 + 1) := Nat.lt_log2_self
      have hle : Nat.sqrt n ≤ 2 ^ (n.log2 / 2 + 1) := by
        refine Nat.le_of_lt (Nat.sqrt_lt.2 (Nat.lt_of_lt_of_le hlog ?_))
        rw [← Nat.pow_add]
        exact Nat.pow_le_pow_right (by decide) (by omega)
      refine Fp.isqrtFrom_eq n _ hpos hs (Nat.lt_succ_sqrt n) _ _ ?_ ?_
      · rwa [Nat.one_shiftLeft]
      · rw [Nat.one_shiftLeft]
        have : 2 ^ (n.log2 / 2 + 1) ≤ 2 ^ (n.log2 + 2) := Nat.pow_le_pow_right (by decide) (by omega)
        omega
    rw [e]
    exact ⟨hs, Nat.lt_succ_sqrt n⟩

end Sys2Proof.Machine
end

