-- ==== Sys2Proof/Laws/State.lean ====
section
/-! SUPPORT. Each field of the state after each named update, so that no proof unfolds a record update. -/

namespace Sys2Proof.Machine

variable (s : State)

@[simp] theorem State.setX_x (r : XReg) (v : Scalar) : (s.setX r v).x = s.x.set r.val v := rfl
@[simp] theorem State.setX_p (r : XReg) (v : Scalar) : (s.setX r v).p = s.p := rfl
@[simp] theorem State.setX_cp (r : XReg) (v : Scalar) : (s.setX r v).cp = s.cp := rfl
@[simp] theorem State.setX_ctrl (r : XReg) (v : Scalar) : (s.setX r v).ctrl = s.ctrl := rfl
@[simp] theorem State.setX_status (r : XReg) (v : Scalar) : (s.setX r v).status = s.status := rfl
@[simp] theorem State.setX_err (r : XReg) (v : Scalar) : (s.setX r v).err = s.err := rfl
@[simp] theorem State.setX_epc (r : XReg) (v : Scalar) : (s.setX r v).epc = s.epc := rfl
@[simp] theorem State.setX_einfo (r : XReg) (v : Scalar) : (s.setX r v).einfo = s.einfo := rfl
@[simp] theorem State.setX_imgW (r : XReg) (v : Scalar) : (s.setX r v).imgW = s.imgW := rfl
@[simp] theorem State.setX_imgH (r : XReg) (v : Scalar) : (s.setX r v).imgH = s.imgH := rfl
@[simp] theorem State.setX_res (r : XReg) (v : Scalar) : (s.setX r v).res = s.res := rfl
@[simp] theorem State.setX_codeSize (r : XReg) (v : Scalar) : (s.setX r v).codeSize = s.codeSize := rfl
@[simp] theorem State.setX_codeVer (r : XReg) (v : Scalar) : (s.setX r v).codeVer = s.codeVer := rfl
@[simp] theorem State.setX_par (r : XReg) (v : Scalar) : (s.setX r v).par = s.par := rfl
@[simp] theorem State.setX_plen (r : XReg) (v : Scalar) : (s.setX r v).plen = s.plen := rfl
@[simp] theorem State.setX_ncorr (r : XReg) (v : Scalar) : (s.setX r v).ncorr = s.ncorr := rfl
@[simp] theorem State.setX_rectN (r : XReg) (v : Scalar) : (s.setX r v).rectN = s.rectN := rfl
@[simp] theorem State.setX_eclvl (r : XReg) (v : Scalar) : (s.setX r v).eclvl = s.eclvl := rfl
@[simp] theorem State.setX_pl (r : XReg) (v : Scalar) : (s.setX r v).pl = s.pl := rfl
@[simp] theorem State.setX_m (r : XReg) (v : Scalar) : (s.setX r v).m = s.m := rfl
@[simp] theorem State.setX_gen (r : XReg) (v : Scalar) : (s.setX r v).gen = s.gen := rfl
@[simp] theorem State.setX_cmd (r : XReg) (v : Scalar) : (s.setX r v).cmd = s.cmd := rfl
@[simp] theorem State.setX_sym (r : XReg) (v : Scalar) : (s.setX r v).sym = s.sym := rfl
@[simp] theorem State.setX_img (r : XReg) (v : Scalar) : (s.setX r v).img = s.img := rfl
@[simp] theorem State.setX_lum (r : XReg) (v : Scalar) : (s.setX r v).lum = s.lum := rfl
@[simp] theorem State.setX_thr (r : XReg) (v : Scalar) : (s.setX r v).thr = s.thr := rfl
@[simp] theorem State.setX_bit (r : XReg) (v : Scalar) : (s.setX r v).bit = s.bit := rfl
@[simp] theorem State.setX_rct (r : XReg) (v : Scalar) : (s.setX r v).rct = s.rct := rfl
@[simp] theorem State.setX_resets (r : XReg) (v : Scalar) : (s.setX r v).resets = s.resets := rfl
@[simp] theorem State.setX_nans (r : XReg) (v : Scalar) : (s.setX r v).nans = s.nans := rfl
@[simp] theorem State.setX_hostq (r : XReg) (v : Scalar) : (s.setX r v).hostq = s.hostq := rfl

@[simp] theorem State.setP_x (r : PReg) (q : Poly) : (s.setP r q).x = s.x := rfl
@[simp] theorem State.setP_p (r : PReg) (q : Poly) : (s.setP r q).p = s.p.set r.val (norm q) := rfl
@[simp] theorem State.setP_cp (r : PReg) (q : Poly) : (s.setP r q).cp = s.cp := rfl
@[simp] theorem State.setP_ctrl (r : PReg) (q : Poly) : (s.setP r q).ctrl = s.ctrl := rfl
@[simp] theorem State.setP_status (r : PReg) (q : Poly) : (s.setP r q).status = s.status := rfl
@[simp] theorem State.setP_err (r : PReg) (q : Poly) : (s.setP r q).err = s.err := rfl
@[simp] theorem State.setP_epc (r : PReg) (q : Poly) : (s.setP r q).epc = s.epc := rfl
@[simp] theorem State.setP_einfo (r : PReg) (q : Poly) : (s.setP r q).einfo = s.einfo := rfl
@[simp] theorem State.setP_imgW (r : PReg) (q : Poly) : (s.setP r q).imgW = s.imgW := rfl
@[simp] theorem State.setP_imgH (r : PReg) (q : Poly) : (s.setP r q).imgH = s.imgH := rfl
@[simp] theorem State.setP_res (r : PReg) (q : Poly) : (s.setP r q).res = s.res := rfl
@[simp] theorem State.setP_codeSize (r : PReg) (q : Poly) : (s.setP r q).codeSize = s.codeSize := rfl
@[simp] theorem State.setP_codeVer (r : PReg) (q : Poly) : (s.setP r q).codeVer = s.codeVer := rfl
@[simp] theorem State.setP_par (r : PReg) (q : Poly) : (s.setP r q).par = s.par := rfl
@[simp] theorem State.setP_plen (r : PReg) (q : Poly) : (s.setP r q).plen = s.plen := rfl
@[simp] theorem State.setP_ncorr (r : PReg) (q : Poly) : (s.setP r q).ncorr = s.ncorr := rfl
@[simp] theorem State.setP_rectN (r : PReg) (q : Poly) : (s.setP r q).rectN = s.rectN := rfl
@[simp] theorem State.setP_eclvl (r : PReg) (q : Poly) : (s.setP r q).eclvl = s.eclvl := rfl
@[simp] theorem State.setP_pl (r : PReg) (q : Poly) : (s.setP r q).pl = s.pl := rfl
@[simp] theorem State.setP_m (r : PReg) (q : Poly) : (s.setP r q).m = s.m := rfl
@[simp] theorem State.setP_gen (r : PReg) (q : Poly) : (s.setP r q).gen = s.gen := rfl
@[simp] theorem State.setP_cmd (r : PReg) (q : Poly) : (s.setP r q).cmd = s.cmd := rfl
@[simp] theorem State.setP_sym (r : PReg) (q : Poly) : (s.setP r q).sym = s.sym := rfl
@[simp] theorem State.setP_img (r : PReg) (q : Poly) : (s.setP r q).img = s.img := rfl
@[simp] theorem State.setP_lum (r : PReg) (q : Poly) : (s.setP r q).lum = s.lum := rfl
@[simp] theorem State.setP_thr (r : PReg) (q : Poly) : (s.setP r q).thr = s.thr := rfl
@[simp] theorem State.setP_bit (r : PReg) (q : Poly) : (s.setP r q).bit = s.bit := rfl
@[simp] theorem State.setP_rct (r : PReg) (q : Poly) : (s.setP r q).rct = s.rct := rfl
@[simp] theorem State.setP_resets (r : PReg) (q : Poly) : (s.setP r q).resets = s.resets := rfl
@[simp] theorem State.setP_nans (r : PReg) (q : Poly) : (s.setP r q).nans = s.nans := rfl
@[simp] theorem State.setP_hostq (r : PReg) (q : Poly) : (s.setP r q).hostq = s.hostq := rfl

@[simp] theorem State.cacheGen_x (k : Nat) : (s.cacheGen k).x = s.x := rfl
@[simp] theorem State.cacheGen_p (k : Nat) : (s.cacheGen k).p = s.p := rfl
@[simp] theorem State.cacheGen_cp (k : Nat) : (s.cacheGen k).cp = s.cp := rfl
@[simp] theorem State.cacheGen_ctrl (k : Nat) : (s.cacheGen k).ctrl = s.ctrl := rfl
@[simp] theorem State.cacheGen_status (k : Nat) : (s.cacheGen k).status = s.status := rfl
@[simp] theorem State.cacheGen_err (k : Nat) : (s.cacheGen k).err = s.err := rfl
@[simp] theorem State.cacheGen_epc (k : Nat) : (s.cacheGen k).epc = s.epc := rfl
@[simp] theorem State.cacheGen_einfo (k : Nat) : (s.cacheGen k).einfo = s.einfo := rfl
@[simp] theorem State.cacheGen_imgW (k : Nat) : (s.cacheGen k).imgW = s.imgW := rfl
@[simp] theorem State.cacheGen_imgH (k : Nat) : (s.cacheGen k).imgH = s.imgH := rfl
@[simp] theorem State.cacheGen_res (k : Nat) : (s.cacheGen k).res = s.res := rfl
@[simp] theorem State.cacheGen_codeSize (k : Nat) : (s.cacheGen k).codeSize = s.codeSize := rfl
@[simp] theorem State.cacheGen_codeVer (k : Nat) : (s.cacheGen k).codeVer = s.codeVer := rfl
@[simp] theorem State.cacheGen_par (k : Nat) : (s.cacheGen k).par = s.par := rfl
@[simp] theorem State.cacheGen_plen (k : Nat) : (s.cacheGen k).plen = s.plen := rfl
@[simp] theorem State.cacheGen_ncorr (k : Nat) : (s.cacheGen k).ncorr = s.ncorr := rfl
@[simp] theorem State.cacheGen_rectN (k : Nat) : (s.cacheGen k).rectN = s.rectN := rfl
@[simp] theorem State.cacheGen_eclvl (k : Nat) : (s.cacheGen k).eclvl = s.eclvl := rfl
@[simp] theorem State.cacheGen_pl (k : Nat) : (s.cacheGen k).pl = s.pl := rfl
@[simp] theorem State.cacheGen_m (k : Nat) : (s.cacheGen k).m = s.m := rfl
@[simp] theorem State.cacheGen_gen (k : Nat) : (s.cacheGen k).gen = growGen s.gen k := rfl
@[simp] theorem State.cacheGen_cmd (k : Nat) : (s.cacheGen k).cmd = s.cmd := rfl
@[simp] theorem State.cacheGen_sym (k : Nat) : (s.cacheGen k).sym = s.sym := rfl
@[simp] theorem State.cacheGen_img (k : Nat) : (s.cacheGen k).img = s.img := rfl
@[simp] theorem State.cacheGen_lum (k : Nat) : (s.cacheGen k).lum = s.lum := rfl
@[simp] theorem State.cacheGen_thr (k : Nat) : (s.cacheGen k).thr = s.thr := rfl
@[simp] theorem State.cacheGen_bit (k : Nat) : (s.cacheGen k).bit = s.bit := rfl
@[simp] theorem State.cacheGen_rct (k : Nat) : (s.cacheGen k).rct = s.rct := rfl
@[simp] theorem State.cacheGen_resets (k : Nat) : (s.cacheGen k).resets = s.resets := rfl
@[simp] theorem State.cacheGen_nans (k : Nat) : (s.cacheGen k).nans = s.nans := rfl
@[simp] theorem State.cacheGen_hostq (k : Nat) : (s.cacheGen k).hostq = s.hostq := rfl

@[simp] theorem State.storeCmd_x (i : Nat) (vs : List Word) : (s.storeCmd i vs).x = s.x := rfl
@[simp] theorem State.storeCmd_p (i : Nat) (vs : List Word) : (s.storeCmd i vs).p = s.p := rfl
@[simp] theorem State.storeCmd_cp (i : Nat) (vs : List Word) : (s.storeCmd i vs).cp = s.cp := rfl
@[simp] theorem State.storeCmd_ctrl (i : Nat) (vs : List Word) : (s.storeCmd i vs).ctrl = s.ctrl := rfl
@[simp] theorem State.storeCmd_status (i : Nat) (vs : List Word) : (s.storeCmd i vs).status = s.status := rfl
@[simp] theorem State.storeCmd_err (i : Nat) (vs : List Word) : (s.storeCmd i vs).err = s.err := rfl
@[simp] theorem State.storeCmd_epc (i : Nat) (vs : List Word) : (s.storeCmd i vs).epc = s.epc := rfl
@[simp] theorem State.storeCmd_einfo (i : Nat) (vs : List Word) : (s.storeCmd i vs).einfo = s.einfo := rfl
@[simp] theorem State.storeCmd_imgW (i : Nat) (vs : List Word) : (s.storeCmd i vs).imgW = s.imgW := rfl
@[simp] theorem State.storeCmd_imgH (i : Nat) (vs : List Word) : (s.storeCmd i vs).imgH = s.imgH := rfl
@[simp] theorem State.storeCmd_res (i : Nat) (vs : List Word) : (s.storeCmd i vs).res = s.res := rfl
@[simp] theorem State.storeCmd_codeSize (i : Nat) (vs : List Word) : (s.storeCmd i vs).codeSize = s.codeSize := rfl
@[simp] theorem State.storeCmd_codeVer (i : Nat) (vs : List Word) : (s.storeCmd i vs).codeVer = s.codeVer := rfl
@[simp] theorem State.storeCmd_par (i : Nat) (vs : List Word) : (s.storeCmd i vs).par = s.par := rfl
@[simp] theorem State.storeCmd_plen (i : Nat) (vs : List Word) : (s.storeCmd i vs).plen = s.plen := rfl
@[simp] theorem State.storeCmd_ncorr (i : Nat) (vs : List Word) : (s.storeCmd i vs).ncorr = s.ncorr := rfl
@[simp] theorem State.storeCmd_rectN (i : Nat) (vs : List Word) : (s.storeCmd i vs).rectN = s.rectN := rfl
@[simp] theorem State.storeCmd_eclvl (i : Nat) (vs : List Word) : (s.storeCmd i vs).eclvl = s.eclvl := rfl
@[simp] theorem State.storeCmd_pl (i : Nat) (vs : List Word) : (s.storeCmd i vs).pl = s.pl := rfl
@[simp] theorem State.storeCmd_m (i : Nat) (vs : List Word) : (s.storeCmd i vs).m = s.m := rfl
@[simp] theorem State.storeCmd_gen (i : Nat) (vs : List Word) : (s.storeCmd i vs).gen = s.gen := rfl
@[simp] theorem State.storeCmd_cmd (i : Nat) (vs : List Word) : (s.storeCmd i vs).cmd = memWrite s.cmd i vs := rfl
@[simp] theorem State.storeCmd_sym (i : Nat) (vs : List Word) : (s.storeCmd i vs).sym = s.sym := rfl
@[simp] theorem State.storeCmd_img (i : Nat) (vs : List Word) : (s.storeCmd i vs).img = s.img := rfl
@[simp] theorem State.storeCmd_lum (i : Nat) (vs : List Word) : (s.storeCmd i vs).lum = s.lum := rfl
@[simp] theorem State.storeCmd_thr (i : Nat) (vs : List Word) : (s.storeCmd i vs).thr = s.thr := rfl
@[simp] theorem State.storeCmd_bit (i : Nat) (vs : List Word) : (s.storeCmd i vs).bit = s.bit := rfl
@[simp] theorem State.storeCmd_rct (i : Nat) (vs : List Word) : (s.storeCmd i vs).rct = s.rct := rfl
@[simp] theorem State.storeCmd_resets (i : Nat) (vs : List Word) : (s.storeCmd i vs).resets = s.resets := rfl
@[simp] theorem State.storeCmd_nans (i : Nat) (vs : List Word) : (s.storeCmd i vs).nans = s.nans := rfl
@[simp] theorem State.storeCmd_hostq (i : Nat) (vs : List Word) : (s.storeCmd i vs).hostq = s.hostq := rfl

@[simp] theorem State.storeSym_x (a : Nat) (vs : List Byte) : (s.storeSym a vs).x = s.x := rfl
@[simp] theorem State.storeSym_p (a : Nat) (vs : List Byte) : (s.storeSym a vs).p = s.p := rfl
@[simp] theorem State.storeSym_cp (a : Nat) (vs : List Byte) : (s.storeSym a vs).cp = s.cp := rfl
@[simp] theorem State.storeSym_ctrl (a : Nat) (vs : List Byte) : (s.storeSym a vs).ctrl = s.ctrl := rfl
@[simp] theorem State.storeSym_status (a : Nat) (vs : List Byte) : (s.storeSym a vs).status = s.status := rfl
@[simp] theorem State.storeSym_err (a : Nat) (vs : List Byte) : (s.storeSym a vs).err = s.err := rfl
@[simp] theorem State.storeSym_epc (a : Nat) (vs : List Byte) : (s.storeSym a vs).epc = s.epc := rfl
@[simp] theorem State.storeSym_einfo (a : Nat) (vs : List Byte) : (s.storeSym a vs).einfo = s.einfo := rfl
@[simp] theorem State.storeSym_imgW (a : Nat) (vs : List Byte) : (s.storeSym a vs).imgW = s.imgW := rfl
@[simp] theorem State.storeSym_imgH (a : Nat) (vs : List Byte) : (s.storeSym a vs).imgH = s.imgH := rfl
@[simp] theorem State.storeSym_res (a : Nat) (vs : List Byte) : (s.storeSym a vs).res = s.res := rfl
@[simp] theorem State.storeSym_codeSize (a : Nat) (vs : List Byte) : (s.storeSym a vs).codeSize = s.codeSize := rfl
@[simp] theorem State.storeSym_codeVer (a : Nat) (vs : List Byte) : (s.storeSym a vs).codeVer = s.codeVer := rfl
@[simp] theorem State.storeSym_par (a : Nat) (vs : List Byte) : (s.storeSym a vs).par = s.par := rfl
@[simp] theorem State.storeSym_plen (a : Nat) (vs : List Byte) : (s.storeSym a vs).plen = s.plen := rfl
@[simp] theorem State.storeSym_ncorr (a : Nat) (vs : List Byte) : (s.storeSym a vs).ncorr = s.ncorr := rfl
@[simp] theorem State.storeSym_rectN (a : Nat) (vs : List Byte) : (s.storeSym a vs).rectN = s.rectN := rfl
@[simp] theorem State.storeSym_eclvl (a : Nat) (vs : List Byte) : (s.storeSym a vs).eclvl = s.eclvl := rfl
@[simp] theorem State.storeSym_pl (a : Nat) (vs : List Byte) : (s.storeSym a vs).pl = s.pl := rfl
@[simp] theorem State.storeSym_m (a : Nat) (vs : List Byte) : (s.storeSym a vs).m = s.m := rfl
@[simp] theorem State.storeSym_gen (a : Nat) (vs : List Byte) : (s.storeSym a vs).gen = s.gen := rfl
@[simp] theorem State.storeSym_cmd (a : Nat) (vs : List Byte) : (s.storeSym a vs).cmd = s.cmd := rfl
@[simp] theorem State.storeSym_sym (a : Nat) (vs : List Byte) : (s.storeSym a vs).sym = memWrite s.sym a vs := rfl
@[simp] theorem State.storeSym_img (a : Nat) (vs : List Byte) : (s.storeSym a vs).img = s.img := rfl
@[simp] theorem State.storeSym_lum (a : Nat) (vs : List Byte) : (s.storeSym a vs).lum = s.lum := rfl
@[simp] theorem State.storeSym_thr (a : Nat) (vs : List Byte) : (s.storeSym a vs).thr = s.thr := rfl
@[simp] theorem State.storeSym_bit (a : Nat) (vs : List Byte) : (s.storeSym a vs).bit = s.bit := rfl
@[simp] theorem State.storeSym_rct (a : Nat) (vs : List Byte) : (s.storeSym a vs).rct = s.rct := rfl
@[simp] theorem State.storeSym_resets (a : Nat) (vs : List Byte) : (s.storeSym a vs).resets = s.resets := rfl
@[simp] theorem State.storeSym_nans (a : Nat) (vs : List Byte) : (s.storeSym a vs).nans = s.nans := rfl
@[simp] theorem State.storeSym_hostq (a : Nat) (vs : List Byte) : (s.storeSym a vs).hostq = s.hostq := rfl

@[simp] theorem State.storeImg_x (i : Nat) (vs : List Byte) : (s.storeImg i vs).x = s.x := rfl
@[simp] theorem State.storeImg_p (i : Nat) (vs : List Byte) : (s.storeImg i vs).p = s.p := rfl
@[simp] theorem State.storeImg_cp (i : Nat) (vs : List Byte) : (s.storeImg i vs).cp = s.cp := rfl
@[simp] theorem State.storeImg_ctrl (i : Nat) (vs : List Byte) : (s.storeImg i vs).ctrl = s.ctrl := rfl
@[simp] theorem State.storeImg_status (i : Nat) (vs : List Byte) : (s.storeImg i vs).status = s.status := rfl
@[simp] theorem State.storeImg_err (i : Nat) (vs : List Byte) : (s.storeImg i vs).err = s.err := rfl
@[simp] theorem State.storeImg_epc (i : Nat) (vs : List Byte) : (s.storeImg i vs).epc = s.epc := rfl
@[simp] theorem State.storeImg_einfo (i : Nat) (vs : List Byte) : (s.storeImg i vs).einfo = s.einfo := rfl
@[simp] theorem State.storeImg_imgW (i : Nat) (vs : List Byte) : (s.storeImg i vs).imgW = s.imgW := rfl
@[simp] theorem State.storeImg_imgH (i : Nat) (vs : List Byte) : (s.storeImg i vs).imgH = s.imgH := rfl
@[simp] theorem State.storeImg_res (i : Nat) (vs : List Byte) : (s.storeImg i vs).res = s.res := rfl
@[simp] theorem State.storeImg_codeSize (i : Nat) (vs : List Byte) : (s.storeImg i vs).codeSize = s.codeSize := rfl
@[simp] theorem State.storeImg_codeVer (i : Nat) (vs : List Byte) : (s.storeImg i vs).codeVer = s.codeVer := rfl
@[simp] theorem State.storeImg_par (i : Nat) (vs : List Byte) : (s.storeImg i vs).par = s.par := rfl
@[simp] theorem State.storeImg_plen (i : Nat) (vs : List Byte) : (s.storeImg i vs).plen = s.plen := rfl
@[simp] theorem State.storeImg_ncorr (i : Nat) (vs : List Byte) : (s.storeImg i vs).ncorr = s.ncorr := rfl
@[simp] theorem State.storeImg_rectN (i : Nat) (vs : List Byte) : (s.storeImg i vs).rectN = s.rectN := rfl
@[simp] theorem State.storeImg_eclvl (i : Nat) (vs : List Byte) : (s.storeImg i vs).eclvl = s.eclvl := rfl
@[simp] theorem State.storeImg_pl (i : Nat) (vs : List Byte) : (s.storeImg i vs).pl = s.pl := rfl
@[simp] theorem State.storeImg_m (i : Nat) (vs : List Byte) : (s.storeImg i vs).m = s.m := rfl
@[simp] theorem State.storeImg_gen (i : Nat) (vs : List Byte) : (s.storeImg i vs).gen = s.gen := rfl
@[simp] theorem State.storeImg_cmd (i : Nat) (vs : List Byte) : (s.storeImg i vs).cmd = s.cmd := rfl
@[simp] theorem State.storeImg_sym (i : Nat) (vs : List Byte) : (s.storeImg i vs).sym = s.sym := rfl
@[simp] theorem State.storeImg_img (i : Nat) (vs : List Byte) : (s.storeImg i vs).img = memWrite s.img i vs := rfl
@[simp] theorem State.storeImg_lum (i : Nat) (vs : List Byte) : (s.storeImg i vs).lum = s.lum := rfl
@[simp] theorem State.storeImg_thr (i : Nat) (vs : List Byte) : (s.storeImg i vs).thr = s.thr := rfl
@[simp] theorem State.storeImg_bit (i : Nat) (vs : List Byte) : (s.storeImg i vs).bit = s.bit := rfl
@[simp] theorem State.storeImg_rct (i : Nat) (vs : List Byte) : (s.storeImg i vs).rct = s.rct := rfl
@[simp] theorem State.storeImg_resets (i : Nat) (vs : List Byte) : (s.storeImg i vs).resets = s.resets := rfl
@[simp] theorem State.storeImg_nans (i : Nat) (vs : List Byte) : (s.storeImg i vs).nans = s.nans := rfl
@[simp] theorem State.storeImg_hostq (i : Nat) (vs : List Byte) : (s.storeImg i vs).hostq = s.hostq := rfl

@[simp] theorem State.storeLum_x (i : Nat) (vs : List Byte) : (s.storeLum i vs).x = s.x := rfl
@[simp] theorem State.storeLum_p (i : Nat) (vs : List Byte) : (s.storeLum i vs).p = s.p := rfl
@[simp] theorem State.storeLum_cp (i : Nat) (vs : List Byte) : (s.storeLum i vs).cp = s.cp := rfl
@[simp] theorem State.storeLum_ctrl (i : Nat) (vs : List Byte) : (s.storeLum i vs).ctrl = s.ctrl := rfl
@[simp] theorem State.storeLum_status (i : Nat) (vs : List Byte) : (s.storeLum i vs).status = s.status := rfl
@[simp] theorem State.storeLum_err (i : Nat) (vs : List Byte) : (s.storeLum i vs).err = s.err := rfl
@[simp] theorem State.storeLum_epc (i : Nat) (vs : List Byte) : (s.storeLum i vs).epc = s.epc := rfl
@[simp] theorem State.storeLum_einfo (i : Nat) (vs : List Byte) : (s.storeLum i vs).einfo = s.einfo := rfl
@[simp] theorem State.storeLum_imgW (i : Nat) (vs : List Byte) : (s.storeLum i vs).imgW = s.imgW := rfl
@[simp] theorem State.storeLum_imgH (i : Nat) (vs : List Byte) : (s.storeLum i vs).imgH = s.imgH := rfl
@[simp] theorem State.storeLum_res (i : Nat) (vs : List Byte) : (s.storeLum i vs).res = s.res := rfl
@[simp] theorem State.storeLum_codeSize (i : Nat) (vs : List Byte) : (s.storeLum i vs).codeSize = s.codeSize := rfl
@[simp] theorem State.storeLum_codeVer (i : Nat) (vs : List Byte) : (s.storeLum i vs).codeVer = s.codeVer := rfl
@[simp] theorem State.storeLum_par (i : Nat) (vs : List Byte) : (s.storeLum i vs).par = s.par := rfl
@[simp] theorem State.storeLum_plen (i : Nat) (vs : List Byte) : (s.storeLum i vs).plen = s.plen := rfl
@[simp] theorem State.storeLum_ncorr (i : Nat) (vs : List Byte) : (s.storeLum i vs).ncorr = s.ncorr := rfl
@[simp] theorem State.storeLum_rectN (i : Nat) (vs : List Byte) : (s.storeLum i vs).rectN = s.rectN := rfl
@[simp] theorem State.storeLum_eclvl (i : Nat) (vs : List Byte) : (s.storeLum i vs).eclvl = s.eclvl := rfl
@[simp] theorem State.storeLum_pl (i : Nat) (vs : List Byte) : (s.storeLum i vs).pl = s.pl := rfl
@[simp] theorem State.storeLum_m (i : Nat) (vs : List Byte) : (s.storeLum i vs).m = s.m := rfl
@[simp] theorem State.storeLum_gen (i : Nat) (vs : List Byte) : (s.storeLum i vs).gen = s.gen := rfl
@[simp] theorem State.storeLum_cmd (i : Nat) (vs : List Byte) : (s.storeLum i vs).cmd = s.cmd := rfl
@[simp] theorem State.storeLum_sym (i : Nat) (vs : List Byte) : (s.storeLum i vs).sym = s.sym := rfl
@[simp] theorem State.storeLum_img (i : Nat) (vs : List Byte) : (s.storeLum i vs).img = s.img := rfl
@[simp] theorem State.storeLum_lum (i : Nat) (vs : List Byte) : (s.storeLum i vs).lum = memWrite s.lum i vs := rfl
@[simp] theorem State.storeLum_thr (i : Nat) (vs : List Byte) : (s.storeLum i vs).thr = s.thr := rfl
@[simp] theorem State.storeLum_bit (i : Nat) (vs : List Byte) : (s.storeLum i vs).bit = s.bit := rfl
@[simp] theorem State.storeLum_rct (i : Nat) (vs : List Byte) : (s.storeLum i vs).rct = s.rct := rfl
@[simp] theorem State.storeLum_resets (i : Nat) (vs : List Byte) : (s.storeLum i vs).resets = s.resets := rfl
@[simp] theorem State.storeLum_nans (i : Nat) (vs : List Byte) : (s.storeLum i vs).nans = s.nans := rfl
@[simp] theorem State.storeLum_hostq (i : Nat) (vs : List Byte) : (s.storeLum i vs).hostq = s.hostq := rfl

@[simp] theorem State.storeThr_x (i : Nat) (vs : List F64) : (s.storeThr i vs).x = s.x := rfl
@[simp] theorem State.storeThr_p (i : Nat) (vs : List F64) : (s.storeThr i vs).p = s.p := rfl
@[simp] theorem State.storeThr_cp (i : Nat) (vs : List F64) : (s.storeThr i vs).cp = s.cp := rfl
@[simp] theorem State.storeThr_ctrl (i : Nat) (vs : List F64) : (s.storeThr i vs).ctrl = s.ctrl := rfl
@[simp] theorem State.storeThr_status (i : Nat) (vs : List F64) : (s.storeThr i vs).status = s.status := rfl
@[simp] theorem State.storeThr_err (i : Nat) (vs : List F64) : (s.storeThr i vs).err = s.err := rfl
@[simp] theorem State.storeThr_epc (i : Nat) (vs : List F64) : (s.storeThr i vs).epc = s.epc := rfl
@[simp] theorem State.storeThr_einfo (i : Nat) (vs : List F64) : (s.storeThr i vs).einfo = s.einfo := rfl
@[simp] theorem State.storeThr_imgW (i : Nat) (vs : List F64) : (s.storeThr i vs).imgW = s.imgW := rfl
@[simp] theorem State.storeThr_imgH (i : Nat) (vs : List F64) : (s.storeThr i vs).imgH = s.imgH := rfl
@[simp] theorem State.storeThr_res (i : Nat) (vs : List F64) : (s.storeThr i vs).res = s.res := rfl
@[simp] theorem State.storeThr_codeSize (i : Nat) (vs : List F64) : (s.storeThr i vs).codeSize = s.codeSize := rfl
@[simp] theorem State.storeThr_codeVer (i : Nat) (vs : List F64) : (s.storeThr i vs).codeVer = s.codeVer := rfl
@[simp] theorem State.storeThr_par (i : Nat) (vs : List F64) : (s.storeThr i vs).par = s.par := rfl
@[simp] theorem State.storeThr_plen (i : Nat) (vs : List F64) : (s.storeThr i vs).plen = s.plen := rfl
@[simp] theorem State.storeThr_ncorr (i : Nat) (vs : List F64) : (s.storeThr i vs).ncorr = s.ncorr := rfl
@[simp] theorem State.storeThr_rectN (i : Nat) (vs : List F64) : (s.storeThr i vs).rectN = s.rectN := rfl
@[simp] theorem State.storeThr_eclvl (i : Nat) (vs : List F64) : (s.storeThr i vs).eclvl = s.eclvl := rfl
@[simp] theorem State.storeThr_pl (i : Nat) (vs : List F64) : (s.storeThr i vs).pl = s.pl := rfl
@[simp] theorem State.storeThr_m (i : Nat) (vs : List F64) : (s.storeThr i vs).m = s.m := rfl
@[simp] theorem State.storeThr_gen (i : Nat) (vs : List F64) : (s.storeThr i vs).gen = s.gen := rfl
@[simp] theorem State.storeThr_cmd (i : Nat) (vs : List F64) : (s.storeThr i vs).cmd = s.cmd := rfl
@[simp] theorem State.storeThr_sym (i : Nat) (vs : List F64) : (s.storeThr i vs).sym = s.sym := rfl
@[simp] theorem State.storeThr_img (i : Nat) (vs : List F64) : (s.storeThr i vs).img = s.img := rfl
@[simp] theorem State.storeThr_lum (i : Nat) (vs : List F64) : (s.storeThr i vs).lum = s.lum := rfl
@[simp] theorem State.storeThr_thr (i : Nat) (vs : List F64) : (s.storeThr i vs).thr = memWrite s.thr i vs := rfl
@[simp] theorem State.storeThr_bit (i : Nat) (vs : List F64) : (s.storeThr i vs).bit = s.bit := rfl
@[simp] theorem State.storeThr_rct (i : Nat) (vs : List F64) : (s.storeThr i vs).rct = s.rct := rfl
@[simp] theorem State.storeThr_resets (i : Nat) (vs : List F64) : (s.storeThr i vs).resets = s.resets := rfl
@[simp] theorem State.storeThr_nans (i : Nat) (vs : List F64) : (s.storeThr i vs).nans = s.nans := rfl
@[simp] theorem State.storeThr_hostq (i : Nat) (vs : List F64) : (s.storeThr i vs).hostq = s.hostq := rfl

@[simp] theorem State.storeBit_x (i : Nat) (vs : List Bool) : (s.storeBit i vs).x = s.x := rfl
@[simp] theorem State.storeBit_p (i : Nat) (vs : List Bool) : (s.storeBit i vs).p = s.p := rfl
@[simp] theorem State.storeBit_cp (i : Nat) (vs : List Bool) : (s.storeBit i vs).cp = s.cp := rfl
@[simp] theorem State.storeBit_ctrl (i : Nat) (vs : List Bool) : (s.storeBit i vs).ctrl = s.ctrl := rfl
@[simp] theorem State.storeBit_status (i : Nat) (vs : List Bool) : (s.storeBit i vs).status = s.status := rfl
@[simp] theorem State.storeBit_err (i : Nat) (vs : List Bool) : (s.storeBit i vs).err = s.err := rfl
@[simp] theorem State.storeBit_epc (i : Nat) (vs : List Bool) : (s.storeBit i vs).epc = s.epc := rfl
@[simp] theorem State.storeBit_einfo (i : Nat) (vs : List Bool) : (s.storeBit i vs).einfo = s.einfo := rfl
@[simp] theorem State.storeBit_imgW (i : Nat) (vs : List Bool) : (s.storeBit i vs).imgW = s.imgW := rfl
@[simp] theorem State.storeBit_imgH (i : Nat) (vs : List Bool) : (s.storeBit i vs).imgH = s.imgH := rfl
@[simp] theorem State.storeBit_res (i : Nat) (vs : List Bool) : (s.storeBit i vs).res = s.res := rfl
@[simp] theorem State.storeBit_codeSize (i : Nat) (vs : List Bool) : (s.storeBit i vs).codeSize = s.codeSize := rfl
@[simp] theorem State.storeBit_codeVer (i : Nat) (vs : List Bool) : (s.storeBit i vs).codeVer = s.codeVer := rfl
@[simp] theorem State.storeBit_par (i : Nat) (vs : List Bool) : (s.storeBit i vs).par = s.par := rfl
@[simp] theorem State.storeBit_plen (i : Nat) (vs : List Bool) : (s.storeBit i vs).plen = s.plen := rfl
@[simp] theorem State.storeBit_ncorr (i : Nat) (vs : List Bool) : (s.storeBit i vs).ncorr = s.ncorr := rfl
@[simp] theorem State.storeBit_rectN (i : Nat) (vs : List Bool) : (s.storeBit i vs).rectN = s.rectN := rfl
@[simp] theorem State.storeBit_eclvl (i : Nat) (vs : List Bool) : (s.storeBit i vs).eclvl = s.eclvl := rfl
@[simp] theorem State.storeBit_pl (i : Nat) (vs : List Bool) : (s.storeBit i vs).pl = s.pl := rfl
@[simp] theorem State.storeBit_m (i : Nat) (vs : List Bool) : (s.storeBit i vs).m = s.m := rfl
@[simp] theorem State.storeBit_gen (i : Nat) (vs : List Bool) : (s.storeBit i vs).gen = s.gen := rfl
@[simp] theorem State.storeBit_cmd (i : Nat) (vs : List Bool) : (s.storeBit i vs).cmd = s.cmd := rfl
@[simp] theorem State.storeBit_sym (i : Nat) (vs : List Bool) : (s.storeBit i vs).sym = s.sym := rfl
@[simp] theorem State.storeBit_img (i : Nat) (vs : List Bool) : (s.storeBit i vs).img = s.img := rfl
@[simp] theorem State.storeBit_lum (i : Nat) (vs : List Bool) : (s.storeBit i vs).lum = s.lum := rfl
@[simp] theorem State.storeBit_thr (i : Nat) (vs : List Bool) : (s.storeBit i vs).thr = s.thr := rfl
@[simp] theorem State.storeBit_bit (i : Nat) (vs : List Bool) : (s.storeBit i vs).bit = memWrite s.bit i vs := rfl
@[simp] theorem State.storeBit_rct (i : Nat) (vs : List Bool) : (s.storeBit i vs).rct = s.rct := rfl
@[simp] theorem State.storeBit_resets (i : Nat) (vs : List Bool) : (s.storeBit i vs).resets = s.resets := rfl
@[simp] theorem State.storeBit_nans (i : Nat) (vs : List Bool) : (s.storeBit i vs).nans = s.nans := rfl
@[simp] theorem State.storeBit_hostq (i : Nat) (vs : List Bool) : (s.storeBit i vs).hostq = s.hostq := rfl

@[simp] theorem State.storeRct_x (i : Nat) (vs : List Bool) : (s.storeRct i vs).x = s.x := rfl
@[simp] theorem State.storeRct_p (i : Nat) (vs : List Bool) : (s.storeRct i vs).p = s.p := rfl
@[simp] theorem State.storeRct_cp (i : Nat) (vs : List Bool) : (s.storeRct i vs).cp = s.cp := rfl
@[simp] theorem State.storeRct_ctrl (i : Nat) (vs : List Bool) : (s.storeRct i vs).ctrl = s.ctrl := rfl
@[simp] theorem State.storeRct_status (i : Nat) (vs : List Bool) : (s.storeRct i vs).status = s.status := rfl
@[simp] theorem State.storeRct_err (i : Nat) (vs : List Bool) : (s.storeRct i vs).err = s.err := rfl
@[simp] theorem State.storeRct_epc (i : Nat) (vs : List Bool) : (s.storeRct i vs).epc = s.epc := rfl
@[simp] theorem State.storeRct_einfo (i : Nat) (vs : List Bool) : (s.storeRct i vs).einfo = s.einfo := rfl
@[simp] theorem State.storeRct_imgW (i : Nat) (vs : List Bool) : (s.storeRct i vs).imgW = s.imgW := rfl
@[simp] theorem State.storeRct_imgH (i : Nat) (vs : List Bool) : (s.storeRct i vs).imgH = s.imgH := rfl
@[simp] theorem State.storeRct_res (i : Nat) (vs : List Bool) : (s.storeRct i vs).res = s.res := rfl
@[simp] theorem State.storeRct_codeSize (i : Nat) (vs : List Bool) : (s.storeRct i vs).codeSize = s.codeSize := rfl
@[simp] theorem State.storeRct_codeVer (i : Nat) (vs : List Bool) : (s.storeRct i vs).codeVer = s.codeVer := rfl
@[simp] theorem State.storeRct_par (i : Nat) (vs : List Bool) : (s.storeRct i vs).par = s.par := rfl
@[simp] theorem State.storeRct_plen (i : Nat) (vs : List Bool) : (s.storeRct i vs).plen = s.plen := rfl
@[simp] theorem State.storeRct_ncorr (i : Nat) (vs : List Bool) : (s.storeRct i vs).ncorr = s.ncorr := rfl
@[simp] theorem State.storeRct_rectN (i : Nat) (vs : List Bool) : (s.storeRct i vs).rectN = s.rectN := rfl
@[simp] theorem State.storeRct_eclvl (i : Nat) (vs : List Bool) : (s.storeRct i vs).eclvl = s.eclvl := rfl
@[simp] theorem State.storeRct_pl (i : Nat) (vs : List Bool) : (s.storeRct i vs).pl = s.pl := rfl
@[simp] theorem State.storeRct_m (i : Nat) (vs : List Bool) : (s.storeRct i vs).m = s.m := rfl
@[simp] theorem State.storeRct_gen (i : Nat) (vs : List Bool) : (s.storeRct i vs).gen = s.gen := rfl
@[simp] theorem State.storeRct_cmd (i : Nat) (vs : List Bool) : (s.storeRct i vs).cmd = s.cmd := rfl
@[simp] theorem State.storeRct_sym (i : Nat) (vs : List Bool) : (s.storeRct i vs).sym = s.sym := rfl
@[simp] theorem State.storeRct_img (i : Nat) (vs : List Bool) : (s.storeRct i vs).img = s.img := rfl
@[simp] theorem State.storeRct_lum (i : Nat) (vs : List Bool) : (s.storeRct i vs).lum = s.lum := rfl
@[simp] theorem State.storeRct_thr (i : Nat) (vs : List Bool) : (s.storeRct i vs).thr = s.thr := rfl
@[simp] theorem State.storeRct_bit (i : Nat) (vs : List Bool) : (s.storeRct i vs).bit = s.bit := rfl
@[simp] theorem State.storeRct_rct (i : Nat) (vs : List Bool) : (s.storeRct i vs).rct = memWrite s.rct i vs := rfl
@[simp] theorem State.storeRct_resets (i : Nat) (vs : List Bool) : (s.storeRct i vs).resets = s.resets := rfl
@[simp] theorem State.storeRct_nans (i : Nat) (vs : List Bool) : (s.storeRct i vs).nans = s.nans := rfl
@[simp] theorem State.storeRct_hostq (i : Nat) (vs : List Bool) : (s.storeRct i vs).hostq = s.hostq := rfl

@[simp] theorem State.completed_x : (s.completed).x = s.x := rfl
@[simp] theorem State.completed_p : (s.completed).p = s.p := rfl
@[simp] theorem State.completed_cp : (s.completed).cp = s.cp + 1#32 := rfl
@[simp] theorem State.completed_ctrl : (s.completed).ctrl = s.ctrl := rfl
@[simp] theorem State.completed_status : (s.completed).status = s.status := rfl
@[simp] theorem State.completed_err : (s.completed).err = s.err := rfl
@[simp] theorem State.completed_epc : (s.completed).epc = s.epc := rfl
@[simp] theorem State.completed_einfo : (s.completed).einfo = s.einfo := rfl
@[simp] theorem State.completed_imgW : (s.completed).imgW = s.imgW := rfl
@[simp] theorem State.completed_imgH : (s.completed).imgH = s.imgH := rfl
@[simp] theorem State.completed_res : (s.completed).res = s.res := rfl
@[simp] theorem State.completed_codeSize : (s.completed).codeSize = s.codeSize := rfl
@[simp] theorem State.completed_codeVer : (s.completed).codeVer = s.codeVer := rfl
@[simp] theorem State.completed_par : (s.completed).par = s.par := rfl
@[simp] theorem State.completed_plen : (s.completed).plen = s.plen := rfl
@[simp] theorem State.completed_ncorr : (s.completed).ncorr = s.ncorr := rfl
@[simp] theorem State.completed_rectN : (s.completed).rectN = s.rectN := rfl
@[simp] theorem State.completed_eclvl : (s.completed).eclvl = s.eclvl := rfl
@[simp] theorem State.completed_pl : (s.completed).pl = s.pl := rfl
@[simp] theorem State.completed_m : (s.completed).m = s.m := rfl
@[simp] theorem State.completed_gen : (s.completed).gen = s.gen := rfl
@[simp] theorem State.completed_cmd : (s.completed).cmd = s.cmd := rfl
@[simp] theorem State.completed_sym : (s.completed).sym = s.sym := rfl
@[simp] theorem State.completed_img : (s.completed).img = s.img := rfl
@[simp] theorem State.completed_lum : (s.completed).lum = s.lum := rfl
@[simp] theorem State.completed_thr : (s.completed).thr = s.thr := rfl
@[simp] theorem State.completed_bit : (s.completed).bit = s.bit := rfl
@[simp] theorem State.completed_rct : (s.completed).rct = s.rct := rfl
@[simp] theorem State.completed_resets : (s.completed).resets = s.resets := rfl
@[simp] theorem State.completed_nans : (s.completed).nans = s.nans := rfl
@[simp] theorem State.completed_hostq : (s.completed).hostq = s.hostq := rfl

@[simp] theorem State.halted_x : (s.halted).x = s.x := rfl
@[simp] theorem State.halted_p : (s.halted).p = s.p := rfl
@[simp] theorem State.halted_cp : (s.halted).cp = s.cp := rfl
@[simp] theorem State.halted_ctrl : (s.halted).ctrl = s.ctrl := rfl
@[simp] theorem State.halted_status : (s.halted).status = statusDone s.status := rfl
@[simp] theorem State.halted_err : (s.halted).err = s.err := rfl
@[simp] theorem State.halted_epc : (s.halted).epc = s.epc := rfl
@[simp] theorem State.halted_einfo : (s.halted).einfo = s.einfo := rfl
@[simp] theorem State.halted_imgW : (s.halted).imgW = s.imgW := rfl
@[simp] theorem State.halted_imgH : (s.halted).imgH = s.imgH := rfl
@[simp] theorem State.halted_res : (s.halted).res = s.res := rfl
@[simp] theorem State.halted_codeSize : (s.halted).codeSize = s.codeSize := rfl
@[simp] theorem State.halted_codeVer : (s.halted).codeVer = s.codeVer := rfl
@[simp] theorem State.halted_par : (s.halted).par = s.par := rfl
@[simp] theorem State.halted_plen : (s.halted).plen = s.plen := rfl
@[simp] theorem State.halted_ncorr : (s.halted).ncorr = s.ncorr := rfl
@[simp] theorem State.halted_rectN : (s.halted).rectN = s.rectN := rfl
@[simp] theorem State.halted_eclvl : (s.halted).eclvl = s.eclvl := rfl
@[simp] theorem State.halted_pl : (s.halted).pl = s.pl := rfl
@[simp] theorem State.halted_m : (s.halted).m = s.m := rfl
@[simp] theorem State.halted_gen : (s.halted).gen = s.gen := rfl
@[simp] theorem State.halted_cmd : (s.halted).cmd = s.cmd := rfl
@[simp] theorem State.halted_sym : (s.halted).sym = s.sym := rfl
@[simp] theorem State.halted_img : (s.halted).img = s.img := rfl
@[simp] theorem State.halted_lum : (s.halted).lum = s.lum := rfl
@[simp] theorem State.halted_thr : (s.halted).thr = s.thr := rfl
@[simp] theorem State.halted_bit : (s.halted).bit = s.bit := rfl
@[simp] theorem State.halted_rct : (s.halted).rct = s.rct := rfl
@[simp] theorem State.halted_resets : (s.halted).resets = s.resets := rfl
@[simp] theorem State.halted_nans : (s.halted).nans = s.nans := rfl
@[simp] theorem State.halted_hostq : (s.halted).hostq = s.hostq := rfl

@[simp] theorem State.faulted_x (c : ErrCode) (n : Nat) : (s.faulted c n).x = s.x := rfl
@[simp] theorem State.faulted_p (c : ErrCode) (n : Nat) : (s.faulted c n).p = s.p := rfl
@[simp] theorem State.faulted_cp (c : ErrCode) (n : Nat) : (s.faulted c n).cp = s.cp := rfl
@[simp] theorem State.faulted_ctrl (c : ErrCode) (n : Nat) : (s.faulted c n).ctrl = s.ctrl := rfl
@[simp] theorem State.faulted_status (c : ErrCode) (n : Nat) : (s.faulted c n).status = statusFault s.status := rfl
@[simp] theorem State.faulted_err (c : ErrCode) (n : Nat) : (s.faulted c n).err = BitVec.ofNat 32 (errNumber c) := rfl
@[simp] theorem State.faulted_epc (c : ErrCode) (n : Nat) : (s.faulted c n).epc = s.cp := rfl
@[simp] theorem State.faulted_einfo (c : ErrCode) (n : Nat) : (s.faulted c n).einfo = BitVec.ofNat 32 n := rfl
@[simp] theorem State.faulted_imgW (c : ErrCode) (n : Nat) : (s.faulted c n).imgW = s.imgW := rfl
@[simp] theorem State.faulted_imgH (c : ErrCode) (n : Nat) : (s.faulted c n).imgH = s.imgH := rfl
@[simp] theorem State.faulted_res (c : ErrCode) (n : Nat) : (s.faulted c n).res = s.res := rfl
@[simp] theorem State.faulted_codeSize (c : ErrCode) (n : Nat) : (s.faulted c n).codeSize = s.codeSize := rfl
@[simp] theorem State.faulted_codeVer (c : ErrCode) (n : Nat) : (s.faulted c n).codeVer = s.codeVer := rfl
@[simp] theorem State.faulted_par (c : ErrCode) (n : Nat) : (s.faulted c n).par = s.par := rfl
@[simp] theorem State.faulted_plen (c : ErrCode) (n : Nat) : (s.faulted c n).plen = s.plen := rfl
@[simp] theorem State.faulted_ncorr (c : ErrCode) (n : Nat) : (s.faulted c n).ncorr = s.ncorr := rfl
@[simp] theorem State.faulted_rectN (c : ErrCode) (n : Nat) : (s.faulted c n).rectN = s.rectN := rfl
@[simp] theorem State.faulted_eclvl (c : ErrCode) (n : Nat) : (s.faulted c n).eclvl = s.eclvl := rfl
@[simp] theorem State.faulted_pl (c : ErrCode) (n : Nat) : (s.faulted c n).pl = s.pl := rfl
@[simp] theorem State.faulted_m (c : ErrCode) (n : Nat) : (s.faulted c n).m = s.m := rfl
@[simp] theorem State.faulted_gen (c : ErrCode) (n : Nat) : (s.faulted c n).gen = s.gen := rfl
@[simp] theorem State.faulted_cmd (c : ErrCode) (n : Nat) : (s.faulted c n).cmd = s.cmd := rfl
@[simp] theorem State.faulted_sym (c : ErrCode) (n : Nat) : (s.faulted c n).sym = s.sym := rfl
@[simp] theorem State.faulted_img (c : ErrCode) (n : Nat) : (s.faulted c n).img = s.img := rfl
@[simp] theorem State.faulted_lum (c : ErrCode) (n : Nat) : (s.faulted c n).lum = s.lum := rfl
@[simp] theorem State.faulted_thr (c : ErrCode) (n : Nat) : (s.faulted c n).thr = s.thr := rfl
@[simp] theorem State.faulted_bit (c : ErrCode) (n : Nat) : (s.faulted c n).bit = s.bit := rfl
@[simp] theorem State.faulted_rct (c : ErrCode) (n : Nat) : (s.faulted c n).rct = s.rct := rfl
@[simp] theorem State.faulted_resets (c : ErrCode) (n : Nat) : (s.faulted c n).resets = s.resets := rfl
@[simp] theorem State.faulted_nans (c : ErrCode) (n : Nat) : (s.faulted c n).nans = s.nans := rfl
@[simp] theorem State.faulted_hostq (c : ErrCode) (n : Nat) : (s.faulted c n).hostq = s.hostq := rfl

@[simp] theorem State.cleared_x : (s.cleared).x = s.x := rfl
@[simp] theorem State.cleared_p : (s.cleared).p = s.p := rfl
@[simp] theorem State.cleared_cp : (s.cleared).cp = s.cp := rfl
@[simp] theorem State.cleared_ctrl : (s.cleared).ctrl = s.ctrl := rfl
@[simp] theorem State.cleared_status : (s.cleared).status = statusClear s.status := rfl
@[simp] theorem State.cleared_err : (s.cleared).err = 0#32 := rfl
@[simp] theorem State.cleared_epc : (s.cleared).epc = 0#32 := rfl
@[simp] theorem State.cleared_einfo : (s.cleared).einfo = 0#32 := rfl
@[simp] theorem State.cleared_imgW : (s.cleared).imgW = s.imgW := rfl
@[simp] theorem State.cleared_imgH : (s.cleared).imgH = s.imgH := rfl
@[simp] theorem State.cleared_res : (s.cleared).res = s.res := rfl
@[simp] theorem State.cleared_codeSize : (s.cleared).codeSize = s.codeSize := rfl
@[simp] theorem State.cleared_codeVer : (s.cleared).codeVer = s.codeVer := rfl
@[simp] theorem State.cleared_par : (s.cleared).par = s.par := rfl
@[simp] theorem State.cleared_plen : (s.cleared).plen = s.plen := rfl
@[simp] theorem State.cleared_ncorr : (s.cleared).ncorr = s.ncorr := rfl
@[simp] theorem State.cleared_rectN : (s.cleared).rectN = s.rectN := rfl
@[simp] theorem State.cleared_eclvl : (s.cleared).eclvl = s.eclvl := rfl
@[simp] theorem State.cleared_pl : (s.cleared).pl = s.pl := rfl
@[simp] theorem State.cleared_m : (s.cleared).m = s.m := rfl
@[simp] theorem State.cleared_gen : (s.cleared).gen = s.gen := rfl
@[simp] theorem State.cleared_cmd : (s.cleared).cmd = s.cmd := rfl
@[simp] theorem State.cleared_sym : (s.cleared).sym = s.sym := rfl
@[simp] theorem State.cleared_img : (s.cleared).img = s.img := rfl
@[simp] theorem State.cleared_lum : (s.cleared).lum = s.lum := rfl
@[simp] theorem State.cleared_thr : (s.cleared).thr = s.thr := rfl
@[simp] theorem State.cleared_bit : (s.cleared).bit = s.bit := rfl
@[simp] theorem State.cleared_rct : (s.cleared).rct = s.rct := rfl
@[simp] theorem State.cleared_resets : (s.cleared).resets = s.resets := rfl
@[simp] theorem State.cleared_nans : (s.cleared).nans = s.nans := rfl
@[simp] theorem State.cleared_hostq : (s.cleared).hostq = s.hostq := rfl

@[simp] theorem State.started_x : (s.started).x = s.x := rfl
@[simp] theorem State.started_p : (s.started).p = s.p := rfl
@[simp] theorem State.started_cp : (s.started).cp = 0#32 := rfl
@[simp] theorem State.started_ctrl : (s.started).ctrl = s.ctrl := rfl
@[simp] theorem State.started_status : (s.started).status = statusStart s.status := rfl
@[simp] theorem State.started_err : (s.started).err = 0#32 := rfl
@[simp] theorem State.started_epc : (s.started).epc = 0#32 := rfl
@[simp] theorem State.started_einfo : (s.started).einfo = 0#32 := rfl
@[simp] theorem State.started_imgW : (s.started).imgW = s.imgW := rfl
@[simp] theorem State.started_imgH : (s.started).imgH = s.imgH := rfl
@[simp] theorem State.started_res : (s.started).res = s.res := rfl
@[simp] theorem State.started_codeSize : (s.started).codeSize = s.codeSize := rfl
@[simp] theorem State.started_codeVer : (s.started).codeVer = s.codeVer := rfl
@[simp] theorem State.started_par : (s.started).par = s.par := rfl
@[simp] theorem State.started_plen : (s.started).plen = s.plen := rfl
@[simp] theorem State.started_ncorr : (s.started).ncorr = s.ncorr := rfl
@[simp] theorem State.started_rectN : (s.started).rectN = s.rectN := rfl
@[simp] theorem State.started_eclvl : (s.started).eclvl = s.eclvl := rfl
@[simp] theorem State.started_pl : (s.started).pl = s.pl := rfl
@[simp] theorem State.started_m : (s.started).m = s.m := rfl
@[simp] theorem State.started_gen : (s.started).gen = s.gen := rfl
@[simp] theorem State.started_cmd : (s.started).cmd = s.cmd := rfl
@[simp] theorem State.started_sym : (s.started).sym = s.sym := rfl
@[simp] theorem State.started_img : (s.started).img = s.img := rfl
@[simp] theorem State.started_lum : (s.started).lum = s.lum := rfl
@[simp] theorem State.started_thr : (s.started).thr = s.thr := rfl
@[simp] theorem State.started_bit : (s.started).bit = s.bit := rfl
@[simp] theorem State.started_rct : (s.started).rct = s.rct := rfl
@[simp] theorem State.started_resets : (s.started).resets = s.resets := rfl
@[simp] theorem State.started_nans : (s.started).nans = s.nans := rfl
@[simp] theorem State.started_hostq : (s.started).hostq = s.hostq := rfl

end Sys2Proof.Machine
end

