-- ==== Sys2Proof/Laws/Mem.lean ====
section
/-! SUPPORT. What the memory operations do: reads after writes, the canonical form, whole-matrix reads. -/

namespace Sys2Proof.Machine

variable {α : Type}

theorem memGet_append (m1 m2 : Mem α) (b : Nat) :
    memGet (m1 ++ m2) b = (memGet m1 b).or (memGet m2 b) := by
  induction m1 with
  | nil => rfl
  | cons c t ih => obtain ⟨k, v⟩ := c; simp only [List.cons_append, memGet]; split <;> simp_all

theorem memGet_filter_of_pos (mm : Mem α) (p : Nat → Bool) (b : Nat) (h : p b = true) :
    memGet (mm.filter fun c => p c.1) b = memGet mm b := by
  induction mm with
  | nil => rfl
  | cons c t ih =>
    obtain ⟨k, v⟩ := c
    by_cases hk : p k = true
    · simp [hk, memGet, ih]
    · have : k ≠ b := by rintro rfl; exact hk h
      simp [hk, memGet, ih, this]

theorem memGet_filter_of_neg (mm : Mem α) (p : Nat → Bool) (b : Nat) (h : p b = false) :
    memGet (mm.filter fun c => p c.1) b = none := by
  induction mm with
  | nil => rfl
  | cons c t ih =>
    obtain ⟨k, v⟩ := c
    by_cases hk : p k = true
    · have : k ≠ b := by rintro rfl; simp [h] at hk
      simp [hk, memGet, ih, this]
    · simp [hk, ih]

theorem memGet_memTag (a : Nat) (vs : List α) (b : Nat) :
    memGet (memTag a vs) b = if a ≤ b then vs[b - a]? else none := by
  induction vs generalizing a with
  | nil => simp [memTag, memGet]
  | cons v t ih =>
    simp only [memTag, memGet, ih]
    by_cases h : a = b
    · subst h; simp
    · by_cases h2 : a ≤ b
      · have e : b - a = (b - (a + 1)) + 1 := by omega
        rw [if_neg h, if_pos (by omega), if_pos h2, e, List.getElem?_cons_succ]
      · simp [h, h2, show ¬ a + 1 ≤ b by omega]

/-- A write is read back inside its range and leaves every other cell as it was. -/
theorem memGet_memWrite (mm : Mem α) (a : Nat) (vs : List α) (b : Nat) :
    memGet (memWrite mm a vs) b = if a ≤ b ∧ b < a + vs.length then vs[b - a]? else memGet mm b := by
  have hl := memGet_filter_of_pos mm (fun k => decide (k < a)) b
  have hl' := memGet_filter_of_neg mm (fun k => decide (k < a)) b
  have hr := memGet_filter_of_pos mm (fun k => decide (a + vs.length ≤ k)) b
  have hr' := memGet_filter_of_neg mm (fun k => decide (a + vs.length ≤ k)) b
  simp only [memWrite, memGet_append, memGet_memTag]
  by_cases h1 : b < a
  · rw [hl (by simpa using h1), hr' (by simp; omega), if_neg (by omega), if_neg (by omega)]; simp
  · by_cases h2 : b < a + vs.length
    · rw [hl' (by simpa using h1), hr' (by simp; omega), if_pos (by omega), if_pos (by omega)]; simp
    · rw [hl' (by simpa using h1), hr (by simp; omega), if_pos (by omega), if_neg (by omega),
        List.getElem?_eq_none (by omega)]; simp

theorem memRead_memWrite_inside (fill : Nat → α) (mm : Mem α) (a : Nat) (vs : List α) (i : Nat) (h : i < vs.length) :
    memRead fill (memWrite mm a vs) (a + i) = vs[i] := by
  simp [memRead, memGet_memWrite, h]

theorem memRead_memWrite_outside (fill : Nat → α) (mm : Mem α) (a : Nat) (vs : List α) (b : Nat)
    (h : b < a ∨ a + vs.length ≤ b) : memRead fill (memWrite mm a vs) b = memRead fill mm b := by
  rw [memRead, memRead, memGet_memWrite, if_neg (by omega)]

theorem memTag_keys (a : Nat) (vs : List α) : ∀ c ∈ memTag a vs, a ≤ c.1 ∧ c.1 < a + vs.length := by
  induction vs generalizing a with
  | nil => simp [memTag]
  | cons v t ih =>
    intro c hc
    simp only [memTag, List.mem_cons] at hc
    rcases hc with rfl | hc
    · simp
    · have := ih (a + 1) c hc; simp only [List.length_cons]; omega

theorem memTag_pairwise (a : Nat) (vs : List α) : (memTag a vs).Pairwise (fun c d => c.1 < d.1) := by
  induction vs generalizing a with
  | nil => simp [memTag]
  | cons v t ih =>
    refine List.Pairwise.cons (fun d hd => ?_) (ih (a + 1))
    have := memTag_keys (a + 1) t d hd; simp only; omega

/-- A write keeps the canonical form when its range lies in the memory; an empty write always does. -/
theorem memWf_memWrite (size : Nat) (mm : Mem α) (a : Nat) (vs : List α) (hm : memWf size mm)
    (h : vs.length = 0 ∨ a + vs.length ≤ size) : memWf size (memWrite mm a vs) := by
  obtain ⟨hp, hb⟩ := hm
  have ht := memTag_keys a vs
  refine ⟨?_, ?_⟩
  · refine List.pairwise_append.2 ⟨List.pairwise_append.2 ⟨hp.filter _, memTag_pairwise a vs, ?_⟩, hp.filter _, ?_⟩
    · intro c hc d hd
      have := ht d hd
      simp only [List.mem_filter, decide_eq_true_eq] at hc; omega
    · intro c hc d hd
      simp only [List.mem_append, List.mem_filter, decide_eq_true_eq] at hc hd
      rcases hc with hc | hc
      · omega
      · have := ht c hc; omega
  · intro c hc
    simp only [memWrite, List.mem_append, List.mem_filter] at hc
    rcases hc with (hc | hc) | hc
    · exact hb c hc.1
    · have := ht c hc; omega
    · exact hb c hc.1

theorem memWf_nil (size : Nat) : memWf size ([] : Mem α) := by simp [memWf]

@[simp] theorem memRange_length (fill : Nat → α) (mm : Mem α) (a n : Nat) : (memRange fill mm a n).length = n := by
  simp [memRange]

theorem memRange_getElem (fill : Nat → α) (mm : Mem α) (a n i : Nat) (h : i < (memRange fill mm a n).length) :
    (memRange fill mm a n)[i] = memRead fill mm (a + i) := by
  simp [memRange]

@[simp] theorem memCells_size (fill : Nat → α) (mm : Mem α) (n : Nat) : (memCells fill mm n).size = n := by
  unfold memCells
  induction mm with
  | nil => simp
  | cons c t ih => simpa using ih

/-- A cell of a matrix read whole is the cell read alone. -/
theorem memCells_getElem? (fill : Nat → α) (mm : Mem α) (n i : Nat) (h : i < n) :
    (memCells fill mm n)[i]? = some (memRead fill mm i) := by
  induction mm with
  | nil => simp [memCells, memRead, memGet, h]
  | cons c t ih =>
    obtain ⟨k, v⟩ := c
    have hs : i < (memCells fill t n).size := by simpa using h
    have e : memCells fill ((k, v) :: t) n = (memCells fill t n).setIfInBounds k v := rfl
    rw [e, Array.getElem?_setIfInBounds]
    by_cases hk : k = i
    · subst hk; simp [h, memRead, memGet]
    · simp only [hk, if_false, ih]; simp [memRead, memGet, hk]

theorem memCells_getD (fill : Nat → α) (mm : Mem α) (n i : Nat) (d : α) (h : i < n) :
    (memCells fill mm n).getD i d = memRead fill mm i := by
  rw [Array.getD_eq_getD_getElem?, memCells_getElem? fill mm n i h]; rfl

/-- The memories of the reset state are in canonical form. -/
theorem State.reset_memInv : State.reset.MemInv := by
  simp [State.MemInv, State.reset, memWf]

end Sys2Proof.Machine
end

