-- ==== Sys2Proof/Laws/Poly.lean ====
section
/-! SUPPORT. Normalisation and the lengths of polynomial results. -/

namespace Sys2Proof.Machine

theorem norm_length_pos (q : Poly) : 1 ≤ (norm q).length := by
  fun_induction norm q <;> simp_all

theorem norm_length_le (q : Poly) : (norm q).length ≤ max 1 q.length := by
  fun_induction norm q <;> (simp_all; try omega)

/-- A normalised sequence is `[c]` or begins with a non-zero coefficient. -/
theorem norm_norm (q : Poly) : norm (norm q) = norm q := by
  fun_induction norm q <;> simp_all [norm]

theorem polyLegal_norm (q : Poly) (h : q.length ≤ Config.pmax) : polyLegal (norm q) := by
  refine ⟨norm_norm q, norm_length_pos q, ?_⟩
  have := norm_length_le q
  simp only [Config.pmax] at *; omega

/-- A register write keeps every register legal when the sequence written is short enough. -/
theorem State.polyInv_setP (s : State) (r : PReg) (q : Poly) (hs : s.PolyInv) (h : q.length ≤ Config.pmax) :
    (s.setP r q).PolyInv := by
  intro r'
  unfold State.getP
  simp only [State.setP_p, Vector.getElem_set]
  split
  · exact polyLegal_norm q h
  · exact hs r'

theorem padd_length (a b : Poly) (ha : 1 ≤ a.length) : (padd a b).length ≤ max a.length b.length := by
  have := norm_length_le (List.zipWith (fun u v => u ^^^ v) (padTo (max a.length b.length) a) (padTo (max a.length b.length) b))
  simp only [padd, padTo, zeros, List.length_zipWith, List.length_append, List.length_replicate] at *
  omega

theorem pmuls_length (q : Poly) (v : GF) (h : 1 ≤ q.length) : (pmuls q v).length ≤ q.length := by
  have := norm_length_le (q.map fun c => gmul c v)
  simp only [pmuls, List.length_map] at *; omega

theorem pmul_length (a b : Poly) (ha : 1 ≤ a.length) (hb : 1 ≤ b.length) : (pmul a b).length ≤ a.length + b.length - 1 := by
  unfold pmul
  split
  · simp; omega
  · have := norm_length_le ((List.range (a.length + b.length - 1)).map (convAt a b))
    simp only [List.length_map, List.length_range] at this; omega

theorem xorOnto_length (q w : Poly) : (xorOnto q w).length = w.length := by
  fun_induction xorOnto q w <;> simp_all

/-- The synthetic division answers `n` quotient cells and leaves the rest. -/
theorem synthDiv_length (li : GF) (bt : Poly) (n : Nat) (w : Poly) (h : n ≤ w.length) :
    (synthDiv li bt n w).1.length = n ∧ (synthDiv li bt n w).2.length = w.length - n := by
  induction n generalizing w with
  | zero => simp [synthDiv]
  | succ n ih =>
    cases w with
    | nil => simp at h
    | cons c w =>
      have hl : ∀ q : GF, (if q = 0 then w else xorOnto (bt.map fun t => gmul t q) w).length = w.length := by
        intro q; split
        · rfl
        · exact xorOnto_length _ _
      simp only [List.length_cons] at h
      have := ih (if gmul c li = 0 then w else xorOnto (bt.map fun t => gmul t (gmul c li)) w) (by rw [hl]; omega)
      rw [hl] at this
      constructor
      · simpa [synthDiv] using this.1
      · simpa [synthDiv] using this.2

/-- The quotient is no longer than the dividend, the remainder shorter than a divisor of two or more cells. -/
theorem pdivmod_length (a b : Poly) (hb : 1 ≤ b.length) :
    (pdivmod a b).1.length ≤ max 1 (a.length - b.length + 1) ∧ (pdivmod a b).2.length ≤ max 1 (b.length - 1) := by
  unfold pdivmod
  split
  · simp; omega
  · have hs := synthDiv_length (ginv (b.headD 0)) b.tail (a.length - b.length + 1) a (by omega)
    have h1 := norm_length_le (synthDiv (ginv (b.headD 0)) b.tail (a.length - b.length + 1) a).1
    have h2 := norm_length_le (synthDiv (ginv (b.headD 0)) b.tail (a.length - b.length + 1) a).2
    simp only
    omega

end Sys2Proof.Machine
end

