-- ==== Sys2Proof/Laws/Ops.lean ====
section
/-! SUPPORT. What the shared operations of the machine do: registers, `SYM`, matrices, the ends of a command, the
fetch, the host's turn. -/

namespace Sys2Proof.Machine

/-! Registers. -/

@[simp] theorem State.getX_setX_same (s : State) (r : XReg) (v : Scalar) : (s.setX r v).getX r = v := by
  simp [State.getX]

theorem State.getX_setX_ne (s : State) (r q : XReg) (v : Scalar) (h : q ≠ r) : (s.setX r v).getX q = s.getX q := by
  have : r.val ≠ q.val := fun e => h (Fin.ext e.symm)
  simp [State.getX, this]

@[simp] theorem State.getP_setP_same (s : State) (r : PReg) (q : Poly) : (s.setP r q).getP r = norm q := by
  simp [State.getP]

theorem State.getP_setP_ne (s : State) (r k : PReg) (q : Poly) (h : k ≠ r) : (s.setP r q).getP k = s.getP k := by
  have : r.val ≠ k.val := fun e => h (Fin.ext e.symm)
  simp [State.getP, this]

@[simp] theorem State.getX_setP (s : State) (r : PReg) (q : Poly) (k : XReg) : (s.setP r q).getX k = s.getX k := rfl
@[simp] theorem State.getP_setX (s : State) (r : XReg) (v : Scalar) (k : PReg) : (s.setX r v).getP k = s.getP k := rfl

/-! `SYM`. -/

theorem State.symByte_storeSym_inside (s : State) (a : Nat) (vs : List Byte) (i : Nat) (h : i < vs.length) :
    (s.storeSym a vs).symByte (a + i) = vs[i] := memRead_memWrite_inside _ _ _ _ _ h

theorem State.symByte_storeSym_outside (s : State) (a : Nat) (vs : List Byte) (b : Nat)
    (h : b < a ∨ a + vs.length ≤ b) : (s.storeSym a vs).symByte b = s.symByte b :=
  memRead_memWrite_outside _ _ _ _ _ h

@[simp] theorem State.symBytes_length (s : State) (a n : Nat) : (s.symBytes a n).length = n := memRange_length _ _ _ _

theorem State.symBytes_getElem (s : State) (a n i : Nat) (h : i < (s.symBytes a n).length) :
    (s.symBytes a n)[i] = s.symByte (a + i) := memRange_getElem _ _ _ _ _ h

theorem symFits_iff (a n : Nat) : symFits a n = true ↔ n = 0 ∨ a + n ≤ Config.symSize := by
  simp [symFits]

/-- A store into a range that fits keeps the canonical form of every memory. -/
theorem State.memInv_storeSym (s : State) (a : Nat) (vs : List Byte) (hs : s.MemInv)
    (h : symFits a vs.length = true) : (s.storeSym a vs).MemInv := by
  obtain ⟨h1, h2, h3⟩ := hs
  exact ⟨h1, memWf_memWrite _ _ _ _ h2 ((symFits_iff _ _).1 h), h3⟩

/-! Matrices: a cell read by a command that reads a matrix whole. -/

theorem State.imgCells_getD (s : State) (n i : Nat) (d : Byte) (h : i < n) : (s.imgCells n).getD i d = s.imgByte i :=
  memCells_getD _ _ _ _ _ h
theorem State.lumCells_getD (s : State) (n i : Nat) (d : Byte) (h : i < n) : (s.lumCells n).getD i d = s.lumByte i :=
  memCells_getD _ _ _ _ _ h
theorem State.thrCells_getD (s : State) (n i : Nat) (d : F64) (h : i < n) : (s.thrCells n).getD i d = s.thrCell i :=
  memCells_getD _ _ _ _ _ h
theorem State.bitCells_getElem? (s : State) (n i : Nat) (h : i < n) : (s.bitCells n)[i]? = some (s.bitCell i) :=
  memCells_getElem? _ _ _ _ h
theorem State.rctCells_getElem? (s : State) (n i : Nat) (h : i < n) : (s.rctCells n)[i]? = some (s.rctCell i) :=
  memCells_getElem? _ _ _ _ h

/-! The ends of a command. -/

/-- All that taking a fault does (R390). -/
theorem State.raise_eq (s : State) (c : ErrCode) (n : Nat) : s.raise c n = .next (s.faulted c n) := rfl

/-- All that completing does (R27). -/
theorem State.complete_eq (s : State) : s.complete = .next s.completed := rfl

/-- A fault changes nothing but the record and `STATUS` (R390). -/
theorem State.faulted_undo (s : State) (c : ErrCode) (n : Nat) :
    { s.faulted c n with err := s.err, epc := s.epc, einfo := s.einfo, status := s.status } = s := rfl

/-! The fetch (R28, R99, R120). -/

theorem State.fetch_overrun (s : State) (h : Config.cmdSize ≤ s.cp.toNat) : s.fetch = .error (.addr, 0) := by
  simp [State.fetch, h]

theorem State.fetch_ok (s : State) (i : Instr) (h : s.cp.toNat < Config.cmdSize)
    (hd : decode (s.cmdWord s.cp.toNat) = .ok i) : s.fetch = .ok i := by
  simp [State.fetch, Nat.not_le.2 h, hd]

theorem State.fetch_illegal (s : State) (e : DecodeError) (h : s.cp.toNat < Config.cmdSize)
    (hd : decode (s.cmdWord s.cp.toNat) = .error e) :
    s.fetch = .error (.illegal, (s.cmdWord s.cp.toNat).toNat) := by
  simp [State.fetch, Nat.not_le.2 h, hd]

/-- All a step can be. -/
theorem step_cases (s : State) :
    (busyBit s.status = true ∧ ∃ rest, s.hostq = .reset :: rest ∧
        step s = .next ({ s with hostq := rest } : State).hostReset) ∨
      (busyBit s.status = true ∧ ∃ rest, s.hostq = .poll :: rest ∧ step s = engineStep { s with hostq := rest }) ∨
      (busyBit s.status = true ∧ (∀ rest, s.hostq ≠ .reset :: rest) ∧ (∀ rest, s.hostq ≠ .poll :: rest) ∧
        step s = engineStep s) ∨
      (busyBit s.status = false ∧ s.hostq = [] ∧ step s = .next s) ∨
      (busyBit s.status = false ∧ ∃ h rest, s.hostq = h :: rest ∧
        step s = ({ s with hostq := rest } : State).hostAct h) := by
  cases hb : busyBit s.status
  · cases hq : s.hostq with
    | nil => simp [step, hb, idleTurn, hq]
    | cons h rest => simp [step, hb, idleTurn, hq]
  · cases hq : s.hostq with
    | nil => simp [step, hb, busyTurn, hq]
    | cons h rest => cases h <;> simp [step, hb, busyTurn, hq, State.hostAct]

end Sys2Proof.Machine
end

