-- ==== Sys2Proof/Laws/Image.lean ====
section
/-! SUPPORT. The checks the image commands share, and a matrix memory that has been written whole. -/

namespace Sys2Proof.Machine

/-- The least legal value of `WMAX` and `HMAX` (R13, U7). -/
theorem Config.wmax_ge : 1250 ≤ Config.wmax := Nat.le_add_left _ _

theorem Config.hmax_ge : 1250 ≤ Config.hmax := Nat.le_add_left _ _

/-- The greatest value of `WMAX` and `HMAX` (R35, log 3). -/
theorem Config.wmax_le : Config.wmax ≤ 32767 := Nat.add_le_add_right (Nat.le_of_lt_succ Config.wmaxExtra.isLt) 1250

theorem Config.hmax_le : Config.hmax ≤ 32767 := Nat.add_le_add_right (Nat.le_of_lt_succ Config.hmaxExtra.isLt) 1250

theorem Config.rmax_ge : 2500 ≤ Config.rmax := by
  have := Config.wmax_ge
  simp only [Config.rmax]
  omega

/-- `RMAX` fits the bound R35 puts on every value the engine writes to an integer CSR. -/
theorem Config.rmax_lt : Config.rmax < 2 ^ 16 := by
  have := Config.wmax_le
  have := Config.hmax_le
  simp only [Config.rmax]
  omega

/-- All the dimension checks can answer (R282). -/
theorem State.dimFault_cases (s : State) :
    (Config.wmax < s.width ∧ s.dimFault = some (.range, s.width)) ∨
      (s.width ≤ Config.wmax ∧ Config.hmax < s.height ∧ s.dimFault = some (.range, s.height)) ∨
      (s.width ≤ Config.wmax ∧ s.height ≤ Config.hmax ∧ s.dimFault = none) := by
  rcases Nat.lt_or_ge Config.wmax s.width with h | h
  · exact .inl ⟨h, by simp [State.dimFault, h]⟩
  · rcases Nat.lt_or_ge Config.hmax s.height with k | k
    · exact .inr (.inl ⟨h, k, by simp [State.dimFault, Nat.not_lt.2 h, k]⟩)
    · exact .inr (.inr ⟨h, k, by simp [State.dimFault, Nat.not_lt.2 h, Nat.not_lt.2 k]⟩)

/-- Dimensions every implementation accepts. -/
theorem State.dimFault_none (s : State) (hw : s.width ≤ 1250) (hh : s.height ≤ 1250) : s.dimFault = none := by
  rcases s.dimFault_cases with h | h | h
  · exact absurd h.1 (Nat.not_lt.2 (Nat.le_trans hw Config.wmax_ge))
  · exact absurd h.2.1 (Nat.not_lt.2 (Nat.le_trans hh Config.hmax_ge))
  · exact h.2.2

/-- The checks of `THRESH`, `BINZ`, `BINARIZE` once the dimensions are accepted (R284). -/
theorem State.blockFault_eq (s : State) (h : s.dimFault = none) :
    s.blockFault = if s.width < 80 then some (.imgSmall, s.width)
      else if s.height < 80 then some (.imgSmall, s.height) else none := by
  unfold State.blockFault
  rw [h]

/-- The cells of a memory written whole from 0 on are what was written. -/
theorem memCells_memTag {α : Type} (fill : Nat → α) (vs : List α) :
    memCells fill (memTag 0 vs) vs.length = vs.toArray := by
  apply Array.ext'
  apply List.ext_getElem?
  intro i
  by_cases h : i < vs.length
  · have hc := memCells_getElem? fill (memTag 0 vs) vs.length i h
    simp only [Array.getElem?_toList] at *
    rw [hc]
    have := memGet_memTag 0 vs i
    simp [memRead, this, h]
  · have h2 : vs.length ≤ i := Nat.not_lt.1 h
    simp [h2]

end Sys2Proof.Machine
end

