-- ==== Sys2Proof/Laws/Locator.lean ====
section
/-! SUPPORT. The sort of the candidates by ascending error (R312). -/

namespace Sys2Proof.Machine

theorem Fp.lt_of_lt_of_le (a b c : F64) (h : Fp.lt a b = true) (k : Fp.le b c = true) : Fp.lt a c = true := by
  simp only [Fp.lt, Fp.le, Bool.and_eq_true, Bool.not_eq_true', decide_eq_true_eq] at *
  exact ⟨⟨h.1.1, k.1.2⟩, Int.lt_of_lt_of_le h.2 k.2⟩

theorem Fp.lt_false_of_le_false (a b : F64) (h : Fp.le a b = false) : Fp.lt a b = false := by
  by_contra hc
  simp only [Bool.not_eq_false] at hc
  simp only [Fp.lt, Bool.and_eq_true, Bool.not_eq_true', decide_eq_true_eq] at hc
  simp [Fp.le, hc.1.1, hc.1.2] at h
  omega

theorem insertCand_perm (c : Cand) : ∀ l, (insertCand c l).Perm (c :: l)
  | [] => .refl _
  | d :: ds => by
    simp only [insertCand]
    split
    · exact .refl _
    · exact ((insertCand_perm c ds).cons d).trans (.swap c d ds)

/-- No later candidate has a lower error, errors that are NaNs included. -/
def errSorted (l : List Cand) : Prop := l.Pairwise fun a b => Fp.lt b.err a.err = false

theorem errSorted_insertCand (c : Cand) : ∀ l, errSorted l → errSorted (insertCand c l)
  | [], _ => List.pairwise_singleton _ _
  | d :: ds, h => by
    obtain ⟨hd, hds⟩ := List.pairwise_cons.1 h
    simp only [insertCand]
    split
    case isTrue hle =>
      refine List.pairwise_cons.2 ⟨fun e he => ?_, h⟩
      by_contra hc
      simp only [Bool.not_eq_false] at hc
      have h1 := Fp.lt_of_lt_of_le _ _ _ hc hle
      rcases List.mem_cons.1 he with rfl | he
      · simp [Fp.lt] at h1
      · exact Bool.noConfusion ((hd e he).symm.trans h1)
    case isFalse hle =>
      refine List.pairwise_cons.2 ⟨fun e he => ?_, errSorted_insertCand c ds hds⟩
      rcases List.mem_cons.1 ((insertCand_perm c ds).mem_iff.1 he) with rfl | he
      · exact Fp.lt_false_of_le_false _ _ (Bool.eq_false_iff.2 hle)
      · exact hd e he

/-- The sort keeps the candidates and puts no lower error after a higher one. -/
theorem sortCands_spec (l : List Cand) : (sortCands l).Perm l ∧ errSorted (sortCands l) := by
  induction l with
  | nil => exact ⟨.refl _, List.Pairwise.nil⟩
  | cons c l ih => exact ⟨(insertCand_perm c _).trans (ih.1.cons c), errSorted_insertCand c _ ih.2⟩

end Sys2Proof.Machine
end

