-- ==== Sys2Proof/WellFormed.lean ====
section
/-! DEFINITION. What a command may be ill-formed in, beyond what its operand types already rule out: the two
destinations of `PDIV` and of `RSKEY` must differ (R185, R208). Such a word decodes (R98); executing it raises
`E_ILLEGAL`. -/

namespace Sys2Proof

/-- The operand condition R185 and R208 put on a command. -/
def Instr.wellFormed : Instr → Bool
  | .pdiv pq _ _ pr => pq ≠ pr
  | .rskey psigma _ _ pomega => psigma ≠ pomega
  | .halt | .li .. | .lds .. | .sts .. => true
  | .gfadd .. | .gfmul .. | .gfinv .. | .gfdiv .. | .gfexp .. | .gflog .. => true
  | .pzero .. | .pone .. | .pmono .. | .pld .. | .pst .. | .pdeg .. | .pcoef .. | .pcidx .. | .peq .. => true
  | .pisz .. | .peval .. | .padd .. | .pmuls .. | .pmul .. => true
  | .rsgen .. | .rsenc .. | .rssyn .. | .rsroot .. | .rsmag .. | .rsdec .. => true
  | .cenc .. | .cdec .. => true
  | .luma | .thresh | .binz | .binarize | .locf | .loca | .locate | .xform => true
  | .extract .. | .render .. => true

end Sys2Proof
end

