-- ==== Sys2Proof/Tests/Slice0.lean ====
section
/-! SUPPORT. The model's own tests: ill-formed commands, decoding, one step of each command, and for each obligation with
hypotheses a state that meets them. Every expected value stands in spec/95_test_vectors.md or follows by hand from the rule
a comment names. -/

open Sys2Proof Sys2Proof.Machine Sys2Proof.Certificates

set_option Elab.async false

namespace Sys2Proof.Tests

/-- A reset state with the first scalar and polynomial registers and some bytes of `SYM` given. -/
def st (xs : List Nat) (ps : List Poly) (mem : List (Nat × List Byte)) : State :=
  { State.reset with
    x := Vector.ofFn fun r => BitVec.ofNat 16 (xs.getD r.val 0),
    p := Vector.ofFn fun r => ps.getD r.val [0],
    sym := mem.foldl (fun m c => memWrite m c.1 c.2) [] }

/-- The state after one step that runs the word; the state itself where the step stops. -/
def run (w : Nat) (s : State) : State :=
  match step (s.withFetchWord 32 w) with
  | .next t => t
  | .fault _ | .refused _ => s

/-- A fault was taken with this code and this detail, `CP` at the command. -/
def took (t : State) (code info : Nat) : Bool :=
  t.err.toNat == code && t.einfo.toNat == info && t.status == 4#32 && t.cp == t.epc

/-! Ill-formed commands (R185, R208). -/

theorem test_wf_pdiv : (Instr.pdiv 1 0 2 1).wellFormed = false ∧ (Instr.pdiv 1 0 1 2).wellFormed = true := by decide
theorem test_wf_rskey : (Instr.rskey 3 0 2 3).wellFormed = false ∧ (Instr.rskey 3 0 3 2).wellFormed = true := by decide

/-! Decoding: words of R103, V1, V5 and the programs P1 to P8. -/

theorem test_decode_control : decode 0x00000000#32 = .ok .halt ∧ decode 0x00070101#32 = .ok (.li 1 7#16) ∧
    decode 0x00004302#32 = .ok (.lds 3 4) ∧ decode 0x00056003#32 = .ok (.sts 6 5) := by decide
theorem test_decode_gf : decode 0x00021310#32 = .ok (.gfadd 3 1 2) ∧ decode 0x00054611#32 = .ok (.gfmul 6 4 5) ∧
    decode 0x00002512#32 = .ok (.gfinv 5 2) ∧ decode 0x00013913#32 = .ok (.gfdiv 9 3 1) ∧
    decode 0x00007814#32 = .ok (.gfexp 8 7) ∧ decode 0x00001715#32 = .ok (.gflog 7 1) := by decide
theorem test_decode_poly : decode 0x00000720#32 = .ok (.pzero 7) ∧ decode 0x00000121#32 = .ok (.pone 1) ∧
    decode 0x00032122#32 = .ok (.pmono 1 2 3) ∧ decode 0x00021023#32 = .ok (.pld 0 1 2) ∧
    decode 0x00009724#32 = .ok (.pst 7 9) ∧ decode 0x00006825#32 = .ok (.pdeg 8 6) ∧
    decode 0x00020326#32 = .ok (.pcoef 3 0 2) ∧ decode 0x00020327#32 = .ok (.pcidx 3 0 2) := by decide
theorem test_decode_poly2 : decode 0x00042528#32 = .ok (.peq 5 2 4) ∧ decode 0x00000129#32 = .ok (.pisz 1 0) ∧
    decode 0x0002772A#32 = .ok (.peval 7 7 2) ∧ decode 0x0001032B#32 = .ok (.padd 3 0 1) ∧
    decode 0x0002012C#32 = .ok (.pmuls 1 0 2) ∧ decode 0x0003222D#32 = .ok (.pmul 2 2 3) ∧
    decode 0x0072562E#32 = .ok (.pdiv 6 5 2 7) := by decide
theorem test_decode_rs : decode 0x00004430#32 = .ok (.rsgen 4 4) ∧ decode 0x00ABCD31#32 = .ok (.rsenc 13 12 11 10) ∧
    decode 0x00320032#32 = .ok (.rssyn 0 0 2 3) ∧ decode 0x00523433#32 = .ok (.rskey 4 3 2 5) ∧
    decode 0x00071834#32 = .ok (.rsroot 8 1 7) ∧ decode 0x00872935#32 = .ok (.rsmag 9 2 7 8) ∧
    decode 0x00320A36#32 = .ok (.rsdec 10 0 2 3) := by decide
theorem test_decode_codec : decode 0x00021038#32 = .ok (.cenc 0 1 2) ∧ decode 0x00050639#32 = .ok (.cdec 6 0 5) := by
  decide
theorem test_decode_image : decode 0x40#32 = .ok .luma ∧ decode 0x41#32 = .ok .thresh ∧ decode 0x42#32 = .ok .binz ∧
    decode 0x43#32 = .ok .binarize ∧ decode 0x48#32 = .ok .locf ∧ decode 0x49#32 = .ok .loca ∧
    decode 0x4A#32 = .ok .locate ∧ decode 0x50#32 = .ok .xform ∧ decode 0x00000951#32 = .ok (.extract 9) ∧
    decode 0x00001058#32 = .ok (.render 1) := by decide

/-! The illegal words of V2. -/

theorem test_illegal_opcode : decode 0xFFFFFFFF#32 = .error .unassignedOpcode ∧
    decode 0x00000004#32 = .error .unassignedOpcode ∧ decode 0x0000002F#32 = .error .unassignedOpcode ∧
    decode 0x00000037#32 = .error .unassignedOpcode ∧ decode 0x00000860#32 = .error .unassignedOpcode := by decide
theorem test_illegal_reserved : decode 0x00000100#32 = .error .reservedNotZero ∧
    decode 0x80000000#32 = .error .reservedNotZero ∧ decode 0x00001001#32 = .error .reservedNotZero ∧
    decode 0x01021311#32 = .error .reservedNotZero ∧ decode 0x00100112#32 = .error .reservedNotZero ∧
    decode 0x00011058#32 = .error .reservedNotZero ∧ decode 0x00001151#32 = .error .reservedNotZero := by decide
theorem test_illegal_poly : decode 0x00000820#32 = .error .noSuchPoly ∧ decode 0x00008125#32 = .error .noSuchPoly ∧
    decode 0x0008002B#32 = .error .noSuchPoly ∧ decode 0x0087692E#32 = .error .noSuchPoly := by decide

/-- The host's two entries: a table word decodes, and runs as the first command after reset. -/
theorem test_table_word : decodeTableWord 32 0x00070101 = some (.li 1 7#16) ∧ decodeTableWord 32 0x860 = none ∧
    (run 0x00070101 State.reset).getX 1 = 7#16 := by decide +kernel

/-- R62: the opcode byte comes first on a byte-wide bus. -/
theorem test_decode_bytes : decodeBytes [0x01, 0x01, 0x07, 0x00, 0x55] = .ok (.li 1 7#16, [0x55]) := by decide

/-! One step of each command. -/

/-- V7. -/
theorem test_halt : (run 0 State.reset).status = 2#32 ∧ (run 0 State.reset).cp = 0#32 := by decide
/-- V8. -/
theorem test_li : (run 0xFFFF0F01 State.reset).getX 15 = 65535#16 := by decide
/-- V9. -/
theorem test_lds : (run 0x00004502 (st [0, 0, 0, 0, 4095] [] [(4095, [200])])).getX 5 = 200#16 ∧
    took (run 0x00004502 (st [0, 0, 0, 0, 4096] [] [])) 3 4096 = true := by decide
/-- V10: the value check comes first. -/
theorem test_sts : (run 0x00054003 (st [0, 0, 0, 0, 4095, 255] [] [])).symByte 4095 = 255#8 ∧
    took (run 0x00054003 (st [0, 0, 0, 0, 5000, 256] [] [])) 2 256 = true := by decide
/-- V11, V18. -/
theorem test_gfadd : (run 0x00021310 (st [0, 37, 50] [] [])).getX 3 = 23#16 ∧
    took (run 0x00021310 (st [0, 70, 80] [] [])) 2 70 = true := by decide +kernel
/-- V12. -/
theorem test_gfmul : (run 0x00021311 (st [0, 33, 33] [] [])).getX 3 = 49#16 ∧
    took (run 0x00021311 (st [0, 5, 64] [] [])) 2 64 = true := by decide +kernel
/-- V13. -/
theorem test_gfinv : (run 0x00001212 (st [0, 9] [] [])).getX 2 = 37#16 ∧
    took (run 0x00001212 (st [0, 0] [] [])) 4 0 = true := by decide +kernel
/-- V14: 0 by 0 faults. -/
theorem test_gfdiv : (run 0x00021313 (st [0, 23, 37] [] [])).getX 3 = 41#16 ∧
    took (run 0x00021313 (st [0, 0, 0] [] [])) 4 0 = true := by decide +kernel
/-- V15. -/
theorem test_gfexp : (run 0x00001214 (st [0, 62] [] [])).getX 2 = 33#16 ∧
    took (run 0x00001214 (st [0, 64] [] [])) 2 64 = true := by decide +kernel
/-- V16. -/
theorem test_gflog : (run 0x00001215 (st [0, 33] [] [])).getX 2 = 62#16 ∧
    (run 0x00001215 (st [0, 1, 9] [] [])).getX 2 = 0#16 := by decide +kernel
/-- V19. -/
theorem test_pzero : (run 0x00000720 (st [] [[1], [1], [1], [1], [1], [1], [1], [1, 2]] [])).getP 7 = [0] := by decide
/-- V19. -/
theorem test_pone : (run 0x00000121 State.reset).getP 1 = [1] := by decide
/-- V19. -/
theorem test_pmono : (run 0x00021022 (st [0, 3, 5] [] [])).getP 0 = [5, 0, 0, 0] ∧
    took (run 0x00021022 (st [0, 128, 1] [] [])) 19 129 = true := by decide +kernel
/-- V20. -/
theorem test_pld : (run 0x00021023 (st [0, 10, 4] [] [(10, [0, 0, 5, 7])])).getP 0 = [5, 7] ∧
    took (run 0x00021023 (st [0, 10, 3] [] [(10, [1, 64, 2])])) 2 64 = true := by decide +kernel
/-- V21. -/
theorem test_pst : (run 0x00001024 (st [0, 4093] [[1, 2, 3]] [])).symBytes 4093 3 = [1, 2, 3] ∧
    took (run 0x00001024 (st [0, 4094] [[1, 2, 3]] [])) 3 4094 = true := by decide +kernel
/-- V22. -/
theorem test_pdeg : (run 0x00000125 (st [] [[5, 0, 7, 1]] [])).getX 1 = 3#16 := by decide
/-- V23. -/
theorem test_pcoef : (run 0x00020326 (st [0, 0, 1] [[5, 0, 7, 1]] [])).getX 3 = 7#16 ∧
    (run 0x00020326 (st [0, 0, 4, 9] [[5, 0, 7, 1]] [])).getX 3 = 0#16 := by decide +kernel
/-- V23. -/
theorem test_pcidx : (run 0x00020327 (st [0, 0, 3] [[5, 0, 7, 1]] [])).getX 3 = 1#16 ∧
    took (run 0x00020327 (st [0, 0, 4] [[5, 0, 7, 1]] [])) 2 4 = true := by decide +kernel
/-- V22: different lengths. -/
theorem test_peq : (run 0x00010028 (st [] [[1], [1, 0]] [])).getX 0 = 0#16 ∧
    (run 0x00010028 (st [] [[1, 3, 2], [1, 3, 2]] [])).getX 0 = 1#16 := by decide
/-- V22. -/
theorem test_pisz : (run 0x00000129 State.reset).getX 1 = 1#16 ∧
    (run 0x00000129 (st [0, 5] [[9]] [])).getX 1 = 0#16 := by decide
/-- V24. -/
theorem test_peval : (run 0x0002032A (st [0, 0, 3] [[5, 0, 7, 1]] [])).getX 3 = 59#16 ∧
    (run 0x0002032A (st [0, 0, 4] [[1, 3, 2]] [])).getX 3 = 30#16 := by decide +kernel
/-- V25. -/
theorem test_padd : (run 0x0001022B (st [] [[5, 1], [1, 0, 0]] [])).getP 2 = [1, 5, 1] ∧
    (run 0x0000002B (st [] [[1, 3, 2]] [])).getP 0 = [0] := by decide +kernel
/-- V26. -/
theorem test_pmuls : (run 0x0002012C (st [0, 0, 5] [[1, 3, 2]] [])).getP 1 = [5, 15, 10] := by decide +kernel
/-- V27. -/
theorem test_pmul : (run 0x0001022D (st [] [[5, 0, 7, 1], [3, 2]] [])).getP 2 = [15, 10, 9, 13, 2] ∧
    took (run 0x0001022D (st [] [List.replicate 65 1, List.replicate 65 1] [])) 19 129 = true := by decide +kernel
/-- V28 in place, V29. -/
theorem test_pdiv : (run 0x0011002E (st [] [[5, 0, 7, 1], [3, 2]] [])).p.toList.take 2 = [[3, 2, 1], [3]] ∧
    took (run 0x0011012E State.reset) 1 0x0011012E = true := by decide +kernel
/-- V31. -/
theorem test_rsgen : (run 0x00004430 (st [0, 0, 0, 0, 4] [] [])).getP 4 = [1, 15, 54, 59, 3] ∧
    (run 0x00004430 (st [0, 0, 0, 0, 4] [] [])).gcnt = 5 := by decide +kernel
/-- V33, and V35. -/
theorem test_rsenc : (run 0x00321031 (st [16, 0, 3, 4] [] [(0, [0, 0, 9])])).symBytes 16 7 =
      [0, 0, 9, 52, 12, 42, 27] ∧
    took (run 0x00321031 (st [16, 0, 100, 29] [] [])) 2 129 = true := by decide +kernel
/-- V36. -/
theorem test_rssyn : (run 0x00321032 (st [0, 0, 9, 2] [] [(0, [1, 5, 7, 4, 11, 11, 14, 20, 55])])).getP 0 = [23, 42] ∧
    took (run 0x00321032 (st [0, 4090, 9, 2] [] [])) 3 4090 = true := by decide +kernel
/-- V37. -/
theorem test_rskey : (run 0x00230133 (st [0, 0, 0, 4] [[6, 14, 51, 38]] [])).p.toList.take 3 =
      [[6, 14, 51, 38], [6, 7, 1], [4, 38]] ∧
    took (run 0x00230133 (st [0, 0, 0, 6] [[58, 34, 47, 8, 1, 1]] [])) 6 1 = true := by decide +kernel
/-- V38. -/
theorem test_rsroot : (run 0x00071834 (st [0, 0, 0, 0, 0, 0, 0, 48] [[0], [11, 57, 51, 1]] [])).symBytes 48 3 =
      [1, 35, 17] ∧
    took (run 0x00071834 (st [] [[0], [1, 0, 1]] [])) 6 2 = true := by decide +kernel
/-- V39. -/
theorem test_rsmag : (run 0x00872935 (st [0, 0, 0, 0, 0, 0, 0, 48, 3, 56] [[0], [0], [39, 38, 16]]
      [(48, [1, 35, 17])])).symBytes 56 3 = [63, 5, 42] ∧
    took (run 0x00872935 (st [0, 0, 0, 0, 0, 0, 0, 48, 2, 56] [[0], [0], [1]] [(48, [2, 2])])) 4 0 = true := by
  decide +kernel
/-- V40, V44. -/
theorem test_rsdec : (run 0x00321036 (st [32, 0, 9, 2] [] [(0, [1, 5, 7, 4, 11, 11, 14, 20, 55])])).symBytes 32 9 =
      [1, 5, 7, 4, 11, 11, 14, 62, 55] ∧
    (run 0x00321036 (st [32, 0, 9, 2] [] [(0, [1, 5, 7, 4, 11, 11, 14, 20, 55])])).ncorr = 1#32 := by decide +kernel
theorem test_rsdec_fail : took (run 0x00321036 (st [32, 0, 8, 2] [] [(0, [52, 22, 40, 37, 54, 43, 25, 19])])) 6 3 =
    true := by decide +kernel
/-- V52. -/
theorem test_cenc : (run 0x00021038 { st [256, 0, 12] [] [(0, [0x56, 0x41, 0x4C, 0x49, 0x44, 0x50, 0x41, 0x59, 0x4C,
      0x4F, 0x41, 0x44])] with eclvl := 0x3FD0000000000000#64 }).symBytes 256 25 =
    [1, 12, 21, 0, 11, 8, 3, 15, 0, 24, 11, 14, 0, 3, 0, 48, 44, 7, 21, 49, 2, 7, 15, 26, 38] := by decide +kernel
/-- V54. -/
theorem test_cenc_level : took (run 0x00021038 { st [256, 0, 3] [] [] with eclvl := 0x3FF8000000000000#64 }) 11 0 =
    true := by decide +kernel
/-- V57. -/
theorem test_cdec :
    (run 0x00021039 { st [1024, 256, 9] [] [(256, [1, 5, 7, 4, 11, 11, 14, 20, 55])] with codeSize := 3#32 }).symBytes
      1024 5 = [0x48, 0x45, 0x4C, 0x4C, 0x4F] := by decide +kernel
/-- V58: the metadata re-check. -/
theorem test_cdec_meta : took (run 0x00021039 { st [1024, 256, 9] [] [(256, [1, 4, 7, 4, 11, 11, 14, 62, 55])] with
    codeSize := 3#32 }) 14 4 = true := by decide +kernel

/-! The image commands. `NUM` values are written as their binary64 words. -/

/-- A reset state with an image of `w x h`. -/
def dims (w h : Nat) (s : State) : State := { s with imgW := BitVec.ofNat 32 w, imgH := BitVec.ofNat 32 h }

/-- V63: luma examples, the two ties among them. -/
theorem test_luma_values : lumaOf 10 20 30 = 19 ∧ lumaOf 245 235 225 = 236 ∧ lumaOf 0 41 44 = 32 ∧ lumaOf 0 69 196 = 64 ∧
    lumaOf 255 255 255 = 255 := by decide +kernel
/-- V63: with `INV` set, (255,0,0) counts as (0,255,255). -/
theorem test_luma : ∃ t, exec .luma { dims 1 1 State.reset with img := [(0, 255), (1, 0), (2, 0), (3, 9)], ctrl := 0x100#32 } =
    .next t ∧ t.lumByte 0 = 201#8 ∧ t.cp = 1#32 := by
  refine ⟨State.completed (State.withLuma { dims 1 1 State.reset with
    img := [(0, 255), (1, 0), (2, 0), (3, 9)], ctrl := 0x100#32 }), ?_, by decide +kernel, by decide⟩
  unfold exec execLuma
  rw [State.dimFault_none _ (by decide +kernel) (by decide +kernel)]
  rfl
/-- R285 by hand: one cell 255 in the block, 255/6400 - 2. -/
theorem test_thresh : threshAt 80 #[255] 0 0 = 0xBFFF5CCCCCCCCCCD#64 := by decide +kernel
/-- V64: 79 x 200. -/
theorem test_thresh_small : exec .thresh (dims 79 200 State.reset) =
    .next ((dims 79 200 State.reset).faulted .imgSmall 79) := by
  unfold exec execThresh
  rw [State.blockFault_eq _ (State.dimFault_none _ (by decide +kernel) (by decide +kernel)), if_pos (by decide +kernel)]
  rfl
/-- V66: `D(33,0) = 47.5`, `D(33,1) = 93.5`, and `D(32,1) = 116.5` outside the flat band. -/
theorem test_binz : decide290 33 0 0x405D200000000000#64 0x4058C00000000000#64 0 0 0 = 0x4047C00000000000#64 ∧
    decide290 33 1 0x405D200000000000#64 0x4058C00000000000#64 0x4047C00000000000#64 0x405D200000000000#64
      0x405D200000000000#64 = 0x4057600000000000#64 ∧
    decide290 32 1 0x405D200000000000#64 0x4058000000000000#64 0 0 0 = 0x405D200000000000#64 := by decide +kernel
/-- R289 by hand: in a width of 81 the column 40 uses block 1, the column 39 block 0. -/
theorem test_binz_block : blockThresh 81 80 #[5, 6] 40 0 = 6 ∧ blockThresh 81 80 #[5, 6] 39 0 = 5 := by decide
/-- R295: a small image is refused by `BINARIZE`. -/
theorem test_binarize : exec .binarize (dims 80 79 State.reset) =
    .next ((dims 80 79 State.reset).faulted .imgSmall 79) := by
  unfold exec execBinarize
  rw [State.blockFault_eq _ (State.dimFault_none _ (by decide +kernel) (by decide +kernel)), if_neg (by decide +kernel), if_pos (by decide +kernel)]
  rfl
/-- V69: no image, no finder. -/
theorem test_locf : exec .locf State.reset = .next (State.reset.faulted .noFinders 0) := by
  unfold exec execLocf
  rw [State.dimFault_none _ (by decide +kernel) (by decide +kernel)]
  rfl
/-- R304 by hand: a run of 2 in place of 1 has `unit = 8/7` and is off by `6/7`, more than half a unit; 4 in
place of 4.8 is off by exactly half a unit, which the strict comparison refuses. -/
theorem test_ratio : validRuns [1, 1, 3, 1, 1] finderRatio = true ∧ validRuns [2, 1, 3, 1, 1] finderRatio = false ∧
    validRuns [2, 4, 2] alignRatio = false := by decide +kernel
/-- V69 through `LOCATE`. -/
theorem test_locate : exec .locate State.reset = .next (State.reset.faulted .noFinders 0) := by
  unfold exec execLocate
  rw [State.dimFault_none _ (by decide +kernel) (by decide +kernel)]
  rfl
/-- R319, V70: the corners of the finders of the "HELLO" image at 166, whatever the order they come in. -/
theorem test_corners : ∀ p ∈ [(0, 1, 2), (1, 2, 0), (2, 1, 0)],
    let q : List Point := [⟨Fp.ofNat 33, Fp.ofNat 33⟩, ⟨Fp.ofNat 133, Fp.ofNat 33⟩, ⟨Fp.ofNat 33, Fp.ofNat 133⟩]
    corners (q.getD p.1 .zero) (q.getD p.2.1 .zero) (q.getD p.2.2 .zero) =
      (q.getD 0 .zero, q.getD 1 .zero, q.getD 2 .zero) := by decide +kernel
/-- R326: a record that is not finite. -/
theorem test_loca : exec .loca { State.reset with pl := { State.reset.pl with fsize := Fp.inf false } } =
    .next (State.faulted { State.reset with pl := { State.reset.pl with fsize := Fp.inf false } } .range 0) := by
  unfold exec execLoca
  rw [State.dimFault_none _ (by decide +kernel) (by decide +kernel), if_pos (by decide +kernel)]
  rfl
/-- R322 by hand: the estimate `TR - TL + BL` and `FSIZE*5/7`. -/
theorem test_estimate :
    let pl : Patterns := { State.reset.pl with tl := ⟨Fp.ofNat 33, Fp.ofNat 33⟩, tr := ⟨Fp.ofNat 133, Fp.ofNat 33⟩, bl := ⟨Fp.ofNat 33, Fp.ofNat 133⟩, fsize := Fp.ofNat 7 }
    estimateBr pl = ⟨Fp.ofNat 133, Fp.ofNat 133⟩ ∧ expectedSize pl = Fp.ofNat 5 := by decide +kernel
/-- V71: the matrix of the "HELLO" image at 166. -/
theorem test_xform : xformMat { State.reset.pl with tl := ⟨Fp.ofNat 33, Fp.ofNat 33⟩, tr := ⟨Fp.ofNat 133, Fp.ofNat 33⟩, bl := ⟨Fp.ofNat 33, Fp.ofNat 133⟩, br := ⟨Fp.ofNat 133, Fp.ofNat 133⟩ } 100 =
    #v[0xC0C3880000000000#64, 0, 0xC114244000000000#64, 0, 0xC0C3880000000000#64, 0xC114244000000000#64, 0, 0,
       0xC0C3880000000000#64] := by decide +kernel
/-- R351 (b): `g` and `h` of the perspective example. -/
theorem test_s2q : (s2q ⟨Fp.ofNat 8, Fp.ofNat 1⟩ ⟨Fp.ofNat 1, 0⟩ ⟨0, Fp.ofNat 6⟩ ⟨Fp.ofNat 10, Fp.ofNat 9⟩).toList.drop 6 =
    [0x3FC6596596596596#64, 0xBFD4514514514514#64, 0x3FF0000000000000#64] := by decide +kernel
/-- V74. -/
theorem test_extract : took (run 0x00000051 State.reset) 2 0 = true := by decide +kernel
/-- R353, R358 by hand: 3 black, 2 white, 2 black from the first corner give the radius 7, one cell in 20. -/
def barRow : List Bool := [true, true, true, false, false, true, true] ++ List.replicate 13 false
theorem test_radii : radii ⟨20, 20, (barRow ++ List.replicate 380 false).toArray⟩ = [Fp.ofNat 7] ∧
    cellCount 20 (scaleOf [Fp.ofNat 7]) = some 1 := by decide +kernel
/-- V61: row 33 of the drawing of "HELLO" at 166, from x = 22: 4 black, 3 white, 9 black, 3 white, 4 black. -/
theorem test_render : ((List.range 23).map fun i => pixelBlack 3 1 0 #[1, 5, 7, 4, 11, 11, 14, 62, 55] (22 + i) 33) =
    List.replicate 4 true ++ List.replicate 3 false ++ List.replicate 9 true ++ List.replicate 3 false ++
      List.replicate 4 true := by decide +kernel
/-- V62: the symbol count comes first. -/
theorem test_render_fault : took (run 0x00000058 { State.reset with codeSize := 65#32 }) 2 65 = true := by decide +kernel

/-! Witnesses: for each obligation with hypotheses, concrete states and operands that meet them, clause by clause, at the
ends of the ranges. -/

/-- A reset state about to run the word. -/
def ready (w : Nat) : State := State.reset.withFetchWord 32 w

theorem wit_EncodeDecode : decode 0x0031022E#32 = .ok (.pdiv 2 0 1 3) := by decide

theorem wit_StepRunsDecoded : (ready 0x00070101).engineTurn ∧ (ready 0x00070101).cp.toNat < 1024 ∧
    decode ((ready 0x00070101).cmdWord (ready 0x00070101).cp.toNat) = .ok (.li 1 7#16) := by
  exact ⟨⟨by decide +kernel, fun _ h => by cases h⟩, by decide +kernel, by decide +kernel⟩
/-- The last word of `CMD`, a poll at the head of the host's moves. -/
theorem wit_StepRunsDecoded_last :
    let s : State := { State.reset with cp := 1023#32, status := 1#32, hostq := [.poll], cmd := [(1023, 0x00070101#32)] }
    s.engineTurn ∧ s.cp.toNat < 1024 ∧ decode (s.cmdWord s.cp.toNat) = .ok (.li 1 7#16) := by
  exact ⟨⟨by decide +kernel, fun _ h => by cases h⟩, by decide +kernel, by decide +kernel⟩
theorem wit_FetchFaults_overrun : ({ State.reset with cp := 1024#32, status := 1#32 } : State).engineTurn ∧
    1024 ≤ ({ State.reset with cp := 1024#32, status := 1#32 } : State).cp.toNat := by
  exact ⟨⟨by decide +kernel, fun _ h => by cases h⟩, by decide +kernel⟩
theorem wit_FetchFaults_illegal : (ready 0x860).engineTurn ∧ (ready 0x860).cp.toNat < 1024 ∧
    decode ((ready 0x860).cmdWord (ready 0x860).cp.toNat) = .error .unassignedOpcode := by
  exact ⟨⟨by decide +kernel, fun _ h => by cases h⟩, by decide +kernel, by decide +kernel⟩
theorem wit_FetchFaults_opcode : (0x00000004#32).toNat % 256 = 0x04 ∧ (0x1234565F#32).toNat % 256 = 0x5F ∧
    0x60 ≤ (0x00000060#32).toNat % 256 ∧ 0x60 ≤ (0xFFFFFFFF#32).toNat % 256 := by decide
theorem wit_FaultEntry : (ErrCode.emptyPayload, 9) ∈ errCodes ∧ (ErrCode.overflow, 19) ∈ errCodes ∧ 2 ^ 32 - 1 < 2 ^ 32 ∧ ({ State.reset with status := 1#32 } : State).status = 1#32 := by decide

theorem wit_StepKeepsMemInv : (ready 0).MemInv ∧ step (ready 0) = .next (ready 0).halted := by
  refine ⟨⟨by decide, ?_, ?_, ?_, ?_, ?_, ?_⟩, by rfl⟩ <;> exact memWf_nil _
theorem wit_StepKeepsPolyInv : (ready 0).PolyInv ∧ step (ready 0) = .next (ready 0).halted := by
  refine ⟨?_, by rfl⟩
  unfold State.PolyInv polyLegal
  decide +kernel
theorem wit_StepKeepsStatusInv : (ready 0).StatusInv ∧ step (ready 0) = .next (ready 0).halted := by
  refine ⟨?_, by rfl⟩
  unfold State.StatusInv
  decide +kernel
theorem wit_StepKeepsCacheInv : (ready 0).CacheInv ∧ step (ready 0) = .next (ready 0).halted := by
  refine ⟨?_, by rfl⟩
  unfold State.CacheInv
  decide +kernel
theorem wit_RunsEnd : busyBit (ready 0).status = true ∧ (ready 0).hostq = [] := by decide

/-- An idle machine with one move of the host to come. -/
def told (h : HostMove) : State := { State.reset with hostq := [h] }

theorem wit_StepStops : (told (.writeSym 4096 7)).hostTurn (.writeSym 4096 7) [] ∧ spaceSize .sym ≤ 4096 := by
  exact ⟨⟨rfl, rfl⟩, by decide⟩
theorem wit_StartEffect : (told (.writeCsr 1 0x101)).hostTurn (.writeCsr 1 0x101) [] ∧ (0x101#64).getLsbD 0 = true ∧
    (told (.writeCsr 1 0x101)).StatusInv := by
  refine ⟨⟨rfl, rfl⟩, by decide, ?_⟩
  unfold State.StatusInv
  decide +kernel
theorem wit_CtrlWrite : ((0xFFFFFF00#32).getLsbD 0 = false ∧ (0xFFFFFF00#32).getLsbD 1 = false) ∧
    ((2#32).getLsbD 0 = false ∧ (2#32).getLsbD 1 = true) ∧ ((3#32).getLsbD 0 = true ∧ (3#32).getLsbD 1 = true) := by decide
theorem wit_CsrPort : 0x10 ∈ [0x08, 0x09, 0x0A, 0x0B, 0x0C, 0x0D, 0x0E, 0x0F, 0x10] ∧
    0x2A ∈ [0x20, 0x21, 0x22, 0x23, 0x24, 0x25, 0x26, 0x27, 0x28, 0x29, 0x2A] ∧ (0x08 ≠ 0x01 ∧ 0x10 ≠ 0x08) ∧
    0x07 ∈ [0x00, 0x02, 0x03, 0x04, 0x05, 0x06, 0x07] ∧ (0x11 ≤ 0x1F ∧ 0x1F < 0x20) ∧ 0x2B ≤ 0x2B ∧ 0x39 ≤ 0x39 := by decide
theorem wit_HostReset : (told .reset).hostq = .reset :: [] ∧
    ({ told .reset with status := 1#32 } : State).hostq = .reset :: [] := ⟨rfl, rfl⟩

theorem wit_ScalarFrame : scalarDest (.pdeg 15 7) = some 15 ∧
    exec (.pdeg 15 7) State.reset = .next (State.reset.setX 15 0).completed := by exact ⟨rfl, rfl⟩
theorem wit_PolyFrame : polyDests (.pone 7) ≠ [] ∧
    exec (.pone 7) State.reset = .next (State.reset.setP 7 [1]).completed := by exact ⟨by decide, rfl⟩
theorem wit_StoreFrame : symDest (st [4095, 255] [] []) (.sts 0 1) = some (4095, 1) ∧
    exec (.sts 0 1) (st [4095, 255] [] []) = .next ((st [4095, 255] [] []).storeSym 4095 [255]).completed := by
  exact ⟨by decide +kernel, rfl⟩
theorem wit_ImageFrame : Instr.locf ∈ [Instr.luma, .thresh, .binz, .binarize, .locf, .loca, .locate, .xform] ∧
    exec .locf State.reset = .next (State.reset.faulted .noFinders 0) := ⟨by decide, test_locf⟩

theorem wit_HaltLiEffect : (ready 0).status = 1#32 := by decide
theorem wit_ByteMoves : 4096 ≤ (st [4096] [] []).natX 0 ∧ (st [4095] [] []).natX 0 < 4096 ∧
    255 < (st [0, 256] [] []).natX 1 ∧ ((st [4096, 255] [] []).natX 1 ≤ 255 ∧ 4096 ≤ (st [4096, 255] [] []).natX 0) ∧
    ((st [4095, 255] [] []).natX 1 ≤ 255 ∧ (st [4095, 255] [] []).natX 0 < 4096) := by decide +kernel
theorem wit_GfAddMul : 63 < (st [64] [] []).natX 0 ∧ ((st [63, 64] [] []).natX 0 ≤ 63 ∧ 63 < (st [63, 64] [] []).natX 1) ∧
    ((st [63, 63] [] []).natX 0 ≤ 63 ∧ (st [63, 63] [] []).natX 1 ≤ 63) := by decide +kernel
theorem wit_GfInvDiv : 63 < (st [64] [] []).natX 0 ∧ (st [0] [] []).natX 0 = 0 ∧
    ((st [63, 64] [] []).natX 0 ≤ 63 ∧ 63 < (st [63, 64] [] []).natX 1) ∧
    ((st [63, 0] [] []).natX 0 ≤ 63 ∧ (st [63, 0] [] []).natX 1 = 0) ∧
    ((st [63, 63] [] []).natX 0 ≤ 63 ∧ (st [63, 63] [] []).natX 0 ≠ 0) ∧
    ((st [0, 63] [] []).natX 0 ≤ 63 ∧ (st [0, 63] [] []).natX 1 ≤ 63 ∧ (st [0, 63] [] []).natX 1 ≠ 0) := by decide +kernel
theorem wit_GfExpLog : 63 < (st [64] [] []).natX 0 ∧ (st [0] [] []).natX 0 = 0 ∧
    ((st [63] [] []).natX 0 ≤ 63 ∧ (st [63] [] []).natX 0 ≠ 0) := by decide +kernel
theorem wit_PolyConstants : 63 < (st [0, 64] [] []).natX 1 ∧ (st [65535, 0] [] []).natX 1 = 0 ∧
    ((st [128, 1] [] []).natX 1 ≤ 63 ∧ (st [128, 1] [] []).natX 1 ≠ 0 ∧ 128 ≤ (st [128, 1] [] []).natX 0) ∧
    ((st [127, 63] [] []).natX 1 ≤ 63 ∧ (st [127, 63] [] []).natX 1 ≠ 0 ∧ (st [127, 63] [] []).natX 0 < 128) := by
  decide +kernel
theorem wit_PolyMemory_range : (st [0, 0] [] []).natX 1 = 0 ∧ 128 < (st [0, 129] [] []).natX 1 ∧
    (1 ≤ (st [3969, 128] [] []).natX 1 ∧ (st [3969, 128] [] []).natX 1 ≤ 128 ∧
      4096 < (st [3969, 128] [] []).natX 0 + (st [3969, 128] [] []).natX 1) := by decide +kernel
theorem wit_PolyMemory_bytes :
    let s := st [4093, 3] [[1, 2, 3]] [(4093, [63, 64, 2])]
    1 ≤ s.natX 1 ∧ s.natX 1 ≤ 128 ∧ s.natX 0 + s.natX 1 ≤ 4096 ∧ firstBadAt s (s.natX 0) (s.natX 1) 1 ∧
      fieldBytes (st [4093, 3] [] [(4093, [0, 63, 2])]) 4093 3 := by
  unfold firstBadAt fieldBytes
  decide +kernel
theorem wit_PolyMemory_store : ¬ fits ((st [4094] [[1, 2, 3]] []).natX 0) ((st [4094] [[1, 2, 3]] []).getP 0).length ∧
    fits ((st [4093] [[1, 2, 3]] []).natX 0) ((st [4093] [[1, 2, 3]] []).getP 0).length := by
  unfold fits
  decide +kernel
theorem wit_PolyReads : ((st [3] [[5, 0, 7, 1]] []).natX 0 < ((st [3] [[5, 0, 7, 1]] []).getP 0).length) ∧
    ((st [4] [[5, 0, 7, 1]] []).getP 0).length ≤ (st [4] [[5, 0, 7, 1]] []).natX 0 ∧ 63 < (st [64] [] []).natX 0 ∧
    (st [63] [] []).natX 0 ≤ 63 := by decide +kernel
theorem wit_PolyArith : 63 < (st [64] [] []).natX 0 ∧ (st [63] [] []).natX 0 ≤ 63 ∧
    (let s := st [] [List.replicate 65 1, List.replicate 65 1] []
     s.getP 0 ≠ [0] ∧ s.getP 1 ≠ [0] ∧ 128 < (s.getP 0).length + (s.getP 1).length - 1) ∧
    (st [] [[0], [1, 2]] []).getP 0 = [0] ∧ (st [] [[1, 2], [0]] []).getP 1 = [0] ∧
    (let s := st [] [List.replicate 65 1, List.replicate 64 1] []
     (s.getP 0).length + (s.getP 1).length - 1 ≤ 128) := by decide +kernel
theorem wit_PdivEffect : (st [] [[5, 0, 7, 1], [3, 2]] []).PolyInv ∧ ((2 : PReg) = 2) ∧
    ((2 : PReg) ≠ 3 ∧ (st [] [[5, 0, 7, 1], [3, 2]] []).getP 2 = [0]) ∧
    ((2 : PReg) ≠ 3 ∧ (st [] [[5, 0, 7, 1], [3, 2]] []).getP 1 ≠ [0]) := by
  unfold State.PolyInv polyLegal
  decide +kernel
theorem wit_RsgenEffect : 63 < (st [64] [] []).natX 0 ∧ (st [63] [] []).natX 0 ≤ 63 := by decide +kernel
theorem wit_RsencEffect : (st [0, 0, 0, 64] [] []).natX 2 = 0 ∧
    ((st [0, 0, 1, 64] [] []).natX 2 ≠ 0 ∧ 63 < (st [0, 0, 1, 64] [] []).natX 3) ∧
    ((st [0, 0, 66, 63] [] []).natX 3 ≤ 63 ∧ 128 < (st [0, 0, 66, 63] [] []).natX 2 + (st [0, 0, 66, 63] [] []).natX 3) ∧
    (¬ fits 4095 2 ∧ fits 4094 2 ∧ ¬ fits 4093 (2 + 2) ∧ fits 4092 (2 + 2)) ∧
    firstBadAt (st [4092, 4094, 2, 2] [] [(4094, [0, 64])]) 4094 2 1 ∧
    fieldBytes (st [4092, 4094, 2, 2] [] [(4094, [0, 63])]) 4094 2 := by
  unfold fits firstBadAt fieldBytes
  decide +kernel
theorem wit_RssynEffect : (st [0, 0, 0, 0] [] []).natX 2 = 0 ∧ 128 < (st [0, 0, 129, 0] [] []).natX 2 ∧
    (1 ≤ (st [0, 0, 128, 64] [] []).natX 2 ∧ (st [0, 0, 128, 64] [] []).natX 2 ≤ 128 ∧
      63 < (st [0, 0, 128, 64] [] []).natX 3) ∧ (¬ fits 4096 1 ∧ fits 4095 1) ∧
    firstBadAt (st [0, 4095, 1, 63] [] [(4095, [64])]) 4095 1 0 ∧ fieldBytes (st [0, 4095, 1, 63] [] [(4095, [63])]) 4095 1 := by
  unfold fits firstBadAt fieldBytes
  decide +kernel
theorem wit_RskeyEffect : ((1 : PReg) = 1) ∧ ((1 : PReg) ≠ 2 ∧ (st [0] [] []).natX 0 = 0) ∧ 63 < (st [64] [] []).natX 0 ∧
    (1 ≤ (st [2] [[1, 2, 3]] []).natX 0 ∧ (st [2] [[1, 2, 3]] []).natX 0 ≤ 63 ∧
      (st [2] [[1, 2, 3]] []).natX 0 ≤ deg ((st [2] [[1, 2, 3]] []).getP 0)) ∧
    (deg ([58, 34, 47, 8, 1, 1] : Poly) < 6 ∧ key [58, 34, 47, 8, 1, 1] 6 = .error .keyEquation) ∧
    (deg ([23, 42] : Poly) < 2 ∧ key [23, 42] 2 = .ok ([2, 1], [42])) := by decide +kernel
theorem wit_RskeyEffect_polys : (st [6] [[58, 34, 47, 8, 1, 1]] []).PolyInv ∧ (st [2] [[23, 42]] []).PolyInv := by
  unfold State.PolyInv polyLegal
  decide +kernel
theorem wit_RsrootEffect : (roots [1, 0, 1] = .error .rootCount) ∧ roots [2, 1] = .ok [2] ∧ ¬ fits 4096 1 ∧ fits 4095 1 ∧
    (((List.range 63).filter fun b => ev [2, 1] (BitVec.ofNat 6 (b + 1)) = 0).map
      fun b => ginv (BitVec.ofNat 6 (b + 1))).length = deg [2, 1] := by
  unfold fits
  decide +kernel
theorem wit_RsmagEffect : 63 < (st [0, 0, 0, 64] [] []).natX 3 ∧ ((st [0, 0, 0, 63] [] []).natX 3 ≤ 63) ∧
    (¬ fits 4095 2 ∧ fits 4094 2 ∧ fits 9999 0) ∧
    (let s := st [56, 0, 48, 2] [] [(48, [2, 64])]
     fieldBytes s 48 1 ∧ (∀ h, h < 1 → s.symByte (48 + h) ≠ 0) ∧ 63 < (s.symByte (48 + 1)).toNat) ∧
    (let s := st [56, 0, 48, 2] [] [(48, [2, 0])]
     fieldBytes s 48 1 ∧ (∀ h, h < 1 → s.symByte (48 + h) ≠ 0) ∧ s.symByte (48 + 1) = 0) := by
  unfold fits fieldBytes
  decide +kernel
/-- Equal locators have a zero denominator; different ones have none. -/
theorem wit_RsmagEffect_den : (fieldBytes (st [56, 0, 48, 2] [] [(48, [2, 2])]) 48 2 ∧ magDen [2, 2] 0 = 0) ∧
    (fieldBytes (st [56, 0, 48, 2] [] [(48, [1, 6])]) 48 2 ∧ magDen [1, 6] 0 ≠ 0 ∧ magDen [1, 6] 1 ≠ 0) := by
  unfold fieldBytes
  decide +kernel
theorem wit_RsdecEffect : (st [0, 0, 0, 0] [] []).natX 2 = 0 ∧ 128 < (st [0, 0, 129, 0] [] []).natX 2 ∧
    (1 ≤ (st [0, 0, 128, 64] [] []).natX 2 ∧ (st [0, 0, 128, 64] [] []).natX 2 ≤ 128 ∧
      63 < (st [0, 0, 128, 64] [] []).natX 3) ∧ (¬ fits 4096 1 ∧ fits 4095 1) ∧
    firstBadAt (st [0, 0, 9, 2] [] [(0, [1, 5, 7, 4, 11, 11, 14, 20, 64])]) 0 9 8 ∧
    (let s := st [0, 0, 9, 2] [] [(0, [1, 5, 7, 4, 11, 11, 14, 20, 55])]
     fieldBytes s 0 9 ∧ rsdec (symbols s 0 9) 2 = .ok ([1, 5, 7, 4, 11, 11, 14, 62, 55], 1)) ∧
    (let s := st [0, 0, 8, 2] [] [(0, [52, 22, 40, 37, 54, 43, 25, 19])]
     fieldBytes s 0 8 ∧ rsdec (symbols s 0 8) 2 = .error .location) := by
  unfold fits firstBadAt fieldBytes
  decide +kernel

theorem wit_CencEffect : (st [0, 0, 0] [] []).natX 2 = 0 ∧
    ((st [0, 0, 1] [] []).natX 2 ≠ 0 ∧ levelOk (Fp.neg (Fp.ofNat 1)) = false) ∧
    (levelOk 0 = true ∧ 64 < minSize 63 0) ∧ (levelOk (Fp.ofNat 1) = true ∧ minSize 62 0 ≤ 64) ∧
    (¬ fits 4096 1 ∧ fits 4095 1) ∧ (¬ fits 4093 (sideFor (minSize 1 0) * sideFor (minSize 1 0))) ∧
    fits 4092 (sideFor (minSize 1 0) * sideFor (minSize 1 0)) := by
  unfold fits
  decide +kernel
/-- A bad character behind a good one; then good ones only, `{`, `a` and the blank. -/
theorem wit_CencEffect_chars :
    (let s := st [256, 0, 2] [] [(0, [0x41, 0x7E])]
     (∀ h, h < 1 → payIndex (s.symByte (0 + h)) ≠ none) ∧ payIndex (s.symByte (0 + 1)) = none) ∧
    (let s := st [256, 0, 3] [] [(0, [0x7B, 0x61, 0x20])]
     ∀ h, h < 3 → payIndex (s.symByte (0 + h)) ≠ none) := by decide +kernel
theorem wit_CdecEffect_range : (st [0, 0, 0] [] []).natX 2 = 0 ∧ 128 < (st [0, 0, 129] [] []).natX 2 ∧
    (1 ≤ (st [0, 0, 4] [] []).natX 2 ∧ 3 * 3 ≠ (st [0, 0, 4] [] []).natX 2) ∧ 11 * 11 = (st [0, 0, 121] [] []).natX 2 ∧
    (¬ fits 4093 4 ∧ fits 4092 4) := by
  unfold fits
  decide +kernel
/-- Steps 1 and 2 of R245: a wrong version, a length of 0, a length too great. -/
theorem wit_CdecEffect_meta : (st [] [] [(0, [0, 1, 0, 0])]).symByte 0 ≠ 1 ∧
    ((st [] [] [(0, [1, 0, 0, 0])]).symByte 0 = 1 ∧ ¬ (1 ≤ 0 ∧ 0 + 2 ≤ 4)) ∧
    ((st [] [] [(0, [1, 3, 0, 0])]).symByte 1 = 3 ∧ ¬ (1 ≤ 3 ∧ 3 + 2 ≤ 4)) := by decide +kernel
/-- No parity: the destination does not fit; a symbol above 63; neither. -/
theorem wit_CdecEffect_plain : ¬ fits 4096 1 ∧ ¬ fieldBytes (st [] [] [(0, [1, 1, 64, 0])]) (0 + 2) 1 ∧
    fieldBytes (st [] [] [(0, [1, 1, 63, 99])]) (0 + 2) 1 := by
  unfold fits fieldBytes
  decide +kernel
/-- With parity: a byte above 63; the decoder fails; it restores the length; it succeeds (V57, V58, V60). -/
theorem wit_CdecEffect_rs : ¬ fieldBytes (st [] [] [(0, [1, 5, 7, 4, 11, 11, 14, 62, 200])]) 0 9 ∧
    rsdec (symbols (st [] [] [(0, [1, 5, 7, 0, 11, 0, 14, 62, 55])]) 0 9) 2 = .error .location ∧
    rsdec (symbols (st [] [] [(0, [1, 4, 7, 4, 11, 11, 14, 62, 55])]) 0 9) 2 = .ok ([1, 5, 7, 4, 11, 11, 14, 62, 55], 1) ∧
    rsdec (symbols (st [] [] [(0, [1, 5, 7, 4, 11, 11, 14, 20, 55])]) 0 9) 2 = .ok ([1, 5, 7, 4, 11, 11, 14, 62, 55], 1) := by
  unfold fieldBytes
  decide +kernel

theorem width_over (n : Nat) (h : n < 4294967295) : n < (dims (n + 1) 0 State.reset).width := by
  have e : (dims (n + 1) 0 State.reset).width = (n + 1) % 4294967296 := BitVec.toNat_ofNat _ _
  omega
theorem height_over (n : Nat) (h : n < 4294967295) : n < (dims 0 (n + 1) State.reset).height := by
  have e : (dims 0 (n + 1) State.reset).height = (n + 1) % 4294967296 := BitVec.toNat_ofNat _ _
  omega
/-- The dimension faults are reached, just above the maxima. -/
theorem wit_dims_fault :
    Config.wmax < (dims (Config.wmax + 1) 0 State.reset).width ∧
    ((dims 0 (Config.hmax + 1) State.reset).width ≤ Config.wmax ∧
      Config.hmax < (dims 0 (Config.hmax + 1) State.reset).height) :=
  ⟨width_over _ (Nat.lt_of_le_of_lt Config.wmax_le (by decide)), Nat.zero_le _,
    height_over _ (Nat.lt_of_le_of_lt Config.hmax_le (by decide))⟩
/-- Accepted dimensions: the greatest every implementation accepts, the least of the block commands, and none. -/
theorem wit_LumaEffect : dimsOk (dims 1250 1250 State.reset) ∧ dimsOk (dims 0 0 State.reset) :=
  ⟨⟨Config.wmax_ge, Config.hmax_ge⟩, Nat.zero_le _, Nat.zero_le _⟩
theorem wit_ThreshEffect : (dimsOk (dims 79 80 State.reset) ∧ (dims 79 80 State.reset).width < 80) ∧
    (dimsOk (dims 80 79 State.reset) ∧ 80 ≤ (dims 80 79 State.reset).width ∧ (dims 80 79 State.reset).height < 80) ∧
    (dimsOk (dims 80 80 State.reset) ∧ 80 ≤ (dims 80 80 State.reset).width ∧ 80 ≤ (dims 80 80 State.reset).height) := by
  have a : 79 ≤ Config.wmax := Nat.le_trans (by decide +kernel) Config.wmax_ge
  have b : 79 ≤ Config.hmax := Nat.le_trans (by decide +kernel) Config.hmax_ge
  have c : 80 ≤ Config.wmax := Nat.le_trans (by decide +kernel) Config.wmax_ge
  have d : 80 ≤ Config.hmax := Nat.le_trans (by decide +kernel) Config.hmax_ge
  exact ⟨⟨⟨a, d⟩, by decide +kernel⟩, ⟨⟨c, b⟩, by decide +kernel, by decide +kernel⟩, ⟨c, d⟩, by decide +kernel, by decide +kernel⟩
theorem wit_BinzEffect : dimsOk (dims 80 80 State.reset) ∧ 80 ≤ (dims 80 80 State.reset).width ∧
    80 ≤ (dims 80 80 State.reset).height := wit_ThreshEffect.2.2
theorem wit_BinarizeEffect : dimsOk (dims 80 80 State.reset) ∧ 80 ≤ (dims 80 80 State.reset).width ∧
    80 ≤ (dims 80 80 State.reset).height := wit_ThreshEffect.2.2

/-- The row `y` of three finders of 7 x 7 pixels below one white row, their centres at the columns 3, 53 and 103; of the
rows the sweep takes, 4 alone crosses the centre discs. -/
def finderRow (y : Nat) : List Bool :=
  let b := if y = 0 then List.replicate 7 false else if y = 1 ∨ y = 7 then List.replicate 7 true
    else if y = 2 ∨ y = 6 then [true, false, false, false, false, false, true] else [true, false, true, true, true, false, true]
  b ++ List.replicate 43 false ++ b ++ List.replicate 43 false ++ b
def finderBits : List Bool := (List.range 8).flatMap finderRow
def finderGrid : Grid := ⟨107, 8, finderBits.toArray⟩
/-- An image of three finders. -/
def finders : State := { dims 107 8 State.reset with bit := memTag 0 finderBits }
theorem finders_grid : finders.bitGrid = finderGrid := by
  have h : finders.width * finders.height = finderBits.length := by decide +kernel
  unfold State.bitGrid
  rw [h]
  simp only [State.bitCells, finders]
  rw [memCells_memTag]
  rfl
/-- The candidate found on a row through the middle of a finder: 7 pixels across, its error the diagonals' alone. -/
def finderCand (x : Nat) : Cand := ⟨Fp.ofNat x, Fp.ofNat 4, 0x4020E6454CD7AA2A#64, 0x3F9E24CC824C9A5A#64⟩
theorem finders_row0 : (windows 5 (rowRuns finderGrid 0 107 0)).filterMap (candOf finderGrid finderRatio 0) = [] := by
  decide +kernel
theorem finders_row2 : (windows 5 (rowRuns finderGrid 0 107 2)).filterMap (candOf finderGrid finderRatio 2) = [] := by
  decide +kernel
/-- The runs of row 4 as (start, length, black). -/
def row4 : List (Nat × Nat × Bool) :=
  [(0, 1, true), (1, 1, false), (2, 3, true), (5, 1, false), (6, 1, true), (7, 43, false),
   (50, 1, true), (51, 1, false), (52, 3, true), (55, 1, false), (56, 1, true), (57, 43, false),
   (100, 1, true), (101, 1, false), (102, 3, true), (105, 1, false), (106, 1, true)]
theorem finders_runs4 : rowRuns finderGrid 0 107 4 = row4.map fun r => ⟨r.1, r.2.1, r.2.2⟩ := by decide +kernel
theorem finders_row4 : (windows 5 (rowRuns finderGrid 0 107 4)).filterMap (candOf finderGrid finderRatio 4) =
    [finderCand 3, finderCand 53, finderCand 103] := by rw [finders_runs4]; decide +kernel
theorem finders_row6 : (windows 5 (rowRuns finderGrid 0 107 6)).filterMap (candOf finderGrid finderRatio 6) = [] := by
  decide +kernel
theorem finders_sweep : sweep finderGrid finderRatio 0 107 0 8 = [finderCand 3, finderCand 53, finderCand 103] := by
  have h := congrArg₂ (· ++ ·) finders_row0 (congrArg₂ (· ++ ·) finders_row2
    (congrArg₂ (· ++ ·) finders_row4 (congrArg₂ (· ++ ·) finders_row6 (rfl : ([] : List Cand) = []))))
  exact h
/-- The record found: the middle finder is `TL`, the three lie on one line. -/
def foundPl : Patterns := { State.reset.pl with tl := ⟨Fp.ofNat 53, Fp.ofNat 4⟩, tr := ⟨Fp.ofNat 3, Fp.ofNat 4⟩, bl := ⟨Fp.ofNat 103, Fp.ofNat 4⟩, fsize := 0x4020E6454CD7AA2A#64 }
theorem wit_LocatorEffects_found : dimsOk finders ∧ findFinders finders.bitGrid finders.pl = .ok foundPl ∧
    locaFinite foundPl = true := by
  refine ⟨⟨Nat.le_trans (by decide +kernel) Config.wmax_ge, Nat.le_trans (by decide +kernel) Config.hmax_ge⟩, ?_, ?_⟩
  · rw [finders_grid]
    unfold findFinders
    rw [show sweep finderGrid finderRatio 0 finderGrid.w 0 finderGrid.h = _ from finders_sweep]
    decide +kernel
  · decide +kernel
theorem wit_LocatorEffects_few : dimsOk State.reset ∧
    findFinders State.reset.bitGrid State.reset.pl = .error (.noFinders, 0) :=
  ⟨⟨Nat.zero_le _, Nat.zero_le _⟩, by decide +kernel⟩
theorem wit_LocatorEffects_none : locaFinite { State.reset.pl with fsize := Fp.nan } = false ∧
    locaFinite State.reset.pl = true ∧ alignCands State.reset.bitGrid State.reset.pl = [] := by decide +kernel

/-- `LocfOrientation` has the hypotheses of the clause of `LocatorEffects` about finders found. -/
theorem wit_LocfOrientation : dimsOk finders ∧ findFinders finders.bitGrid finders.pl = .ok foundPl :=
  ⟨wit_LocatorEffects_found.1, wit_LocatorEffects_found.2.1⟩

/-- A ring of 5 x 5 pixels and the record whose window is just that. -/
def ringBits : List Bool := List.replicate 6 true ++ [false, false, false, true, true, false, false, false, true, true, false, false, false] ++ List.replicate 6 true
def ringPl : Patterns := { State.reset.pl with tl := ⟨Fp.ofInt (-6), Fp.ofInt (-6)⟩, tr := ⟨Fp.ofNat 2, Fp.ofInt (-6)⟩, bl := ⟨Fp.ofInt (-6), Fp.ofNat 2⟩, fsize := Fp.ofNat 7 }
def ring : State := { dims 5 5 State.reset with bit := memTag 0 ringBits, pl := ringPl }
theorem wit_LocatorEffects_ring : dimsOk ring ∧ locaFinite ring.pl = true ∧
    ∃ c ∈ alignCands ring.bitGrid ring.pl, adoptable (expectedSize ring.pl) c = true := by
  refine ⟨⟨Nat.le_trans (by decide +kernel) Config.wmax_ge, Nat.le_trans (by decide +kernel) Config.hmax_ge⟩,
    by decide +kernel, by decide +kernel⟩

/-- `XFORM`: a record that is not finite; all points equal; an overflow in `dist`; the side 1. -/
theorem wit_XformEffect : xformFinite { State.reset.pl with br := ⟨Fp.nan, 0⟩ } = false ∧
    (xformFinite State.reset.pl = true ∧ Fp.isFinite (rectSide State.reset.pl) = true ∧ Fp.floor (rectSide State.reset.pl) < 1) ∧
    (let pl : Patterns := { State.reset.pl with tr := ⟨0x6974E718D7D7625A#64, 0⟩ }
     xformFinite pl = true ∧ Fp.isInf (rectSide pl) = true) ∧
    (let pl : Patterns := { State.reset.pl with tr := ⟨Fp.ofNat 1, 0⟩, bl := ⟨0, Fp.ofNat 1⟩ }
     xformFinite pl = true ∧ Fp.isFinite (rectSide pl) = true ∧ Fp.floor (rectSide pl) = 1) ∧ 1 ≤ 1 := by decide +kernel
theorem wit_XformEffect_side : 1 ≤ Config.rmax := Nat.le_trans (by decide +kernel) Config.rmax_ge
/-- A side above `RMAX`: the points are 2^40 apart. -/
theorem wit_XformEffect_above :
    let pl : Patterns := { State.reset.pl with tr := ⟨Fp.ofNat (2 ^ 40), 0⟩, bl := ⟨0, Fp.ofNat (2 ^ 40)⟩ }
    xformFinite pl = true ∧ Fp.isFinite (rectSide pl) = true ∧ Fp.floor (rectSide pl) = (2 ^ 40 : Nat) ∧
      Config.rmax < 2 ^ 40 :=
  ⟨by decide +kernel, by decide +kernel, by decide +kernel, Nat.lt_trans Config.rmax_lt (by decide)⟩

/-- A rectified matrix of 20 x 20 with one bar pattern from its first corner. -/
def barred : State := { State.reset with rectN := 20#32, rct := memTag 0 (barRow ++ List.replicate 380 false) }
theorem barred_grid : barred.rctGrid = ⟨20, 20, (barRow ++ List.replicate 380 false).toArray⟩ := by
  have h : barred.rectN.toNat * barred.rectN.toNat = (barRow ++ List.replicate 380 false).length := by decide +kernel
  unfold State.rctGrid
  rw [h]
  simp only [State.rctCells, barred]
  rw [memCells_memTag]
  rfl
theorem wit_ExtractEffect : 1 ≤ barred.rectN.toNat ∧ barred.rectN.toNat ≤ Config.rmax ∧ radii barred.rctGrid ≠ [] ∧
    cellCount barred.rectN.toNat (scaleOf (radii barred.rctGrid)) = some 1 ∧ fits 4095 (1 * 1) ∧ ¬ fits 4096 (1 * 1) := by
  rw [barred_grid, test_radii.1]
  refine ⟨by decide +kernel, Nat.le_trans (by decide +kernel) Config.rmax_ge, by decide, test_radii.2, ?_, ?_⟩ <;>
    · unfold fits; decide
/-- No radius: an all-white matrix; no count: a code of no cell. -/
theorem wit_ExtractEffect_stops : State.reset.rectN.toNat = 0 ∧ radii ⟨1, 1, #[false]⟩ = [] ∧
    cellCount 7 (scaleOf [Fp.ofNat 7]) = none := by decide +kernel
theorem wit_RenderEffect : State.reset.codeSize.toNat = 0 ∧ 64 < (65#32).toNat ∧ ¬ fits 4096 1 ∧ fits 4095 1 ∧
    (110 ≤ Config.wmax ∧ 110 ≤ Config.hmax) ∧ 28 * 1 + 82 ≤ 110 ∧ 109 < 28 * 1 + 82 ∧
    firstBadAt (st [0, 4095] [] [(4095, [64])]) 4095 1 0 ∧ fieldBytes (st [0, 4095] [] [(4095, [63])]) 4095 1 := by
  refine ⟨by decide, by decide, ?_, ?_, ⟨Nat.le_trans (by decide +kernel) Config.wmax_ge, Nat.le_trans (by decide +kernel) Config.hmax_ge⟩, ?_, ?_, ?_, ?_⟩
  · unfold fits; decide
  · unfold fits; decide
  · decide
  · decide
  · unfold firstBadAt fieldBytes; decide +kernel
  · unfold fieldBytes; decide +kernel
/-- A resolution above `WMAX` and `HMAX`. -/
theorem wit_RenderEffect_range : Config.wmax < (32768#32).toNat ∧ Config.hmax < (32768#32).toNat :=
  ⟨Nat.lt_succ_of_le Config.wmax_le, Nat.lt_succ_of_le Config.hmax_le⟩

theorem wit_FieldTables : 62 < 63 ∧ (63 : GF) ≠ 0 := by decide
theorem wit_FieldLaws : (63 : GF) ≠ 0 ∧ (st [] [] []).natX 0 = 0 := by decide +kernel
theorem wit_PolyLaws : polyLegal [5, 0, 7, 1] ∧ polyLegal [3, 2] ∧ ([3, 2] : Poly) ≠ [0] ∧ polyLegal [0] ∧
    polyLegal (List.replicate 128 1) := by
  unfold polyLegal
  decide +kernel
theorem wit_CodewordRoots : 1 ≤ ([0] : List GF).length ∧ 63 ≤ 63 ∧ 62 < 63 ∧
    ([0] : List GF) = List.replicate ([0] : List GF).length 0 := by decide
theorem wit_CleanWords : syn [1, 5, 7, 4, 11, 11, 14, 62, 55] 2 = [0] ∧ 1 ≤ ([5] : List GF).length ∧
    (1 ≤ 2 ∧ (3 : GF) ≠ 0 ∧ syn [0, 7, 7, 4, 11, 11, 14, 62, 55] 2 = [3]) := by decide +kernel
theorem wit_ContentRoundTrip : ([0x61] : List Byte) ≠ [] ∧ levelOk (Fp.ofNat 1) = true ∧ minSize 1 (Fp.ofNat 1) ≤ 64 ∧
    (∀ c ∈ ([0x61] : List Byte), payIndex c ≠ none) ∧ minSize 62 0 = 64 := by decide +kernel
/-- A tie between two subnormal values, and a quotient above the greatest power of two; 1 + 1, 1 - 1 and the root of 2. -/
theorem wit_NumRoundsToNearest : 0 < 2 ∧ Fp.isFinite (Fp.round false 5 2) = true ∧ Fp.isFinite (2#64) = true ∧
    Fp.mag (3#64) ≠ Fp.mag (Fp.round false 5 2) ∧ Fp.isFinite (Fp.round true (2 ^ 2097) 1) = true ∧
    (let one : F64 := Fp.ofNat 1
     Fp.isFinite one = true ∧ Fp.mag one ≠ 0 ∧ Fp.units one + Fp.units one ≠ 0 ∧ Fp.units one - Fp.units one = 0 ∧
       Fp.units one + Fp.units (Fp.neg one) = 0 ∧ Fp.units one - Fp.units (Fp.neg one) ≠ 0) ∧
    (Fp.isFinite (Fp.ofNat 2) = true ∧ Fp.isNeg (Fp.ofNat 2) = false ∧ Fp.mag (Fp.ofNat 2) ≠ 0 ∧
      Fp.mag (Fp.ofNat 1) < Fp.mag (Fp.sqrt (Fp.ofNat 2)) ∧ Fp.mag (Fp.sqrt (Fp.ofNat 2)) < Fp.mag (Fp.ofNat 2)) := by
  decide +kernel

end Sys2Proof.Tests
end

section
/-! Proofs about `NUM` (R13, R17): the fields of a datum, one rounding, the operations, and the statement
`NumRoundsToNearest` put together from them. -/

open Sys2Proof.Certificates

namespace Sys2Proof.Machine

/-! The fields of a datum, of its negation, and of a datum written by its sign and its other 63 bits. -/

theorem Fp.expField_eq (a : F64) : Fp.expField a = a.toNat / 2 ^ 52 % 2 ^ 11 := by
  simp [Fp.expField, BitVec.extractLsb'_toNat, Nat.shiftRight_eq_div_pow]

theorem Fp.fracField_eq (a : F64) : Fp.fracField a = a.toNat % 2 ^ 52 := by
  simp [Fp.fracField, BitVec.extractLsb'_toNat]

theorem Fp.fracField_lt (a : F64) : Fp.fracField a < 2 ^ 52 := (a.extractLsb' 0 52).isLt

theorem Fp.expField_lt (a : F64) : Fp.expField a < 2048 := (a.extractLsb' 52 11).isLt

theorem Fp.isFinite_iff (a : F64) : Fp.isFinite a = true ↔ Fp.expField a ≠ 2047 := by simp [Fp.isFinite]

theorem Fp.isNan_of_isFinite {a : F64} (h : Fp.isFinite a = true) : Fp.isNan a = false := by
  simp [Fp.isNan, (Fp.isFinite_iff a).1 h]

theorem Fp.isInf_of_isFinite {a : F64} (h : Fp.isFinite a = true) : Fp.isInf a = false := by
  simp [Fp.isInf, (Fp.isFinite_iff a).1 h]

@[simp] theorem Fp.isNeg_neg (a : F64) : Fp.isNeg (Fp.neg a) = !Fp.isNeg a := by simp [Fp.isNeg, Fp.neg]

@[simp] theorem Fp.expField_neg (a : F64) : Fp.expField (Fp.neg a) = Fp.expField a := by
  simp [Fp.expField, Fp.neg, BitVec.extractLsb'_xor]

@[simp] theorem Fp.fracField_neg (a : F64) : Fp.fracField (Fp.neg a) = Fp.fracField a := by
  simp [Fp.fracField, Fp.neg, BitVec.extractLsb'_xor]

@[simp] theorem Fp.isFinite_neg (a : F64) : Fp.isFinite (Fp.neg a) = Fp.isFinite a := by simp [Fp.isFinite]

@[simp] theorem Fp.units_neg (a : F64) : Fp.units (Fp.neg a) = -Fp.units a := by
  have hmag : Fp.mag (Fp.neg a) = Fp.mag a := by simp [Fp.mag]
  cases h : Fp.isNeg a <;> simp [Fp.units, hmag, h]

theorem Fp.toNat_withSign (neg : Bool) {bits : Nat} (h : bits < 2 ^ 63) :
    (Fp.withSign neg bits).toNat = (if neg then 2 ^ 63 else 0) + bits := by
  cases neg <;> simp [Fp.withSign] <;> omega

theorem Fp.isNeg_withSign (neg : Bool) {bits : Nat} (h : bits < 2 ^ 63) : Fp.isNeg (Fp.withSign neg bits) = neg := by
  have hmsb := BitVec.msb_eq_decide (Fp.withSign neg bits)
  rw [Fp.toNat_withSign neg h] at hmsb
  rw [Fp.isNeg, ← BitVec.msb_eq_getLsbD_last (x := Fp.withSign neg bits), hmsb]
  cases neg
  · simpa using h
  · simp

theorem Fp.expField_withSign (neg : Bool) {bits : Nat} (h : bits < 2 ^ 63) :
    Fp.expField (Fp.withSign neg bits) = bits / 2 ^ 52 := by
  rw [Fp.expField_eq, Fp.toNat_withSign neg h]
  cases neg <;> simp only [if_true, if_false, Bool.false_eq_true] <;> omega

theorem Fp.fracField_withSign (neg : Bool) {bits : Nat} (h : bits < 2 ^ 63) :
    Fp.fracField (Fp.withSign neg bits) = bits % 2 ^ 52 := by
  rw [Fp.fracField_eq, Fp.toNat_withSign neg h]
  cases neg <;> simp only [if_true, if_false, Bool.false_eq_true] <;> omega

/-! The magnitudes and the gaps between them. -/

/-- A magnitude is a significand below 2^53 times a power of two (R13). -/
theorem Fp.mag_eq_mul_pow (a : F64) : ∃ m < 2 ^ 53, Fp.mag a = m * 2 ^ (Fp.expField a - 1) := by
  have := Fp.fracField_lt a
  unfold Fp.mag
  split
  case isTrue h => exact ⟨Fp.fracField a, by omega, by simp [h]⟩
  case isFalse h => exact ⟨2 ^ 52 + Fp.fracField a, by omega, Nat.shiftLeft_eq _ _⟩

/-- No magnitude lies strictly between two neighbours of the grid `2^sh` where the significands have 53 bits. -/
theorem Fp.mag_off_gap (a : F64) {q sh : Nat} (hq : sh = 0 ∨ 2 ^ 52 ≤ q) :
    Fp.mag a ≤ q * 2 ^ sh ∨ (q + 1) * 2 ^ sh ≤ Fp.mag a := by
  rcases hq with rfl | hq
  · omega
  · refine or_iff_not_imp_left.2 fun hlt => ?_
    obtain ⟨m, hm, he⟩ := Fp.mag_eq_mul_pow a
    rw [he] at hlt ⊢
    generalize Fp.expField a - 1 = e at hlt ⊢
    have hexp : 2 ^ (52 + sh) < 2 ^ (53 + e) := by
      calc 2 ^ (52 + sh) = 2 ^ 52 * 2 ^ sh := pow_add ..
        _ ≤ q * 2 ^ sh := Nat.mul_le_mul_right _ hq
        _ < m * 2 ^ e := Nat.lt_of_not_le hlt
        _ ≤ 2 ^ 53 * 2 ^ e := Nat.mul_le_mul_right _ hm.le
        _ = 2 ^ (53 + e) := (pow_add ..).symm
    have hle : sh ≤ e := by
      have := (Nat.pow_lt_pow_iff_right (a := 2) (by decide)).1 hexp
      omega
    obtain ⟨k, hk⟩ : 2 ^ sh ∣ m * 2 ^ e := (Nat.pow_dvd_pow 2 hle).mul_left m
    rw [hk, Nat.mul_comm] at hlt ⊢
    exact Nat.mul_le_mul_left _ (Nat.lt_of_mul_lt_mul_right (Nat.lt_of_not_le hlt))

theorem Fp.mag_even_of_le {a : F64} (h : 2 ^ 53 ≤ Fp.mag a) : Fp.mag a % 2 = 0 := by
  have := Fp.mag_off_gap a (q := Fp.mag a / 2) (sh := 1) (.inr (by omega))
  omega

theorem Fp.mag_lt_of_isFinite {a : F64} (h : Fp.isFinite a = true) : Fp.mag a < 2 ^ 53 * 2 ^ 2045 := by
  obtain ⟨m, hm, he⟩ := Fp.mag_eq_mul_pow a
  have hexp : Fp.expField a - 1 ≤ 2045 := by
    have := Fp.expField_lt a
    have := (Fp.isFinite_iff a).1 h
    omega
  rw [he]
  exact Nat.mul_lt_mul_of_lt_of_le hm (pow_le_pow_right₀ (by decide) hexp) (by positivity)

/-- A significand `q` of up to 53 bits with a shift `sh`, packed as `Fp.round` packs it, has the magnitude `q * 2^sh`;
the significand 2^53 carries into the exponent. -/
theorem Fp.mag_withSign (neg : Bool) {q sh : Nat} (hq : sh = 0 ∨ 2 ^ 52 ≤ q) (hle : q ≤ 2 ^ 53)
    (hfin : sh * 2 ^ 52 + q < 2047 * 2 ^ 52) : Fp.mag (Fp.withSign neg (sh * 2 ^ 52 + q)) = q * 2 ^ sh := by
  have hbits : sh * 2 ^ 52 + q < 2 ^ 63 := by omega
  rw [Fp.mag, Fp.expField_withSign neg hbits, Fp.fracField_withSign neg hbits]
  rcases Nat.lt_or_ge q (2 ^ 52) with hsub | hnorm
  · obtain rfl : sh = 0 := by omega
    rw [if_pos (by omega)]
    omega
  · rw [if_neg (by omega), Nat.shiftLeft_eq]
    rcases Nat.lt_or_eq_of_le hle with hlt | rfl
    · rw [show (sh * 2 ^ 52 + q) / 2 ^ 52 - 1 = sh by omega, show 2 ^ 52 + (sh * 2 ^ 52 + q) % 2 ^ 52 = q by omega]
    · rw [show (sh * 2 ^ 52 + 2 ^ 53) / 2 ^ 52 - 1 = sh + 1 by omega,
        show 2 ^ 52 + (sh * 2 ^ 52 + 2 ^ 53) % 2 ^ 52 = 2 ^ 52 by omega, pow_succ]
      omega

/-! One rounding. -/

/-- `num / den` lies at or above `q` and below `q + 1` steps of `2^sh`, the grid of the 53-bit significands there; `q'` is
the nearer of the two, of two equally near ones the even one. -/
structure Fp.Rounding (num den sh q q' : Nat) : Prop where
  normal : sh = 0 ∨ 2 ^ 52 ≤ q
  lt : q < 2 ^ 53
  nearer : ∃ r < den * 2 ^ sh, num = q * (den * 2 ^ sh) + r ∧
    (q' = q ∧ (2 * r < den * 2 ^ sh ∨ 2 * r = den * 2 ^ sh ∧ q % 2 = 0) ∨
      q' = q + 1 ∧ (den * 2 ^ sh < 2 * r ∨ 2 * r = den * 2 ^ sh ∧ q % 2 = 1))

/-- The shift `Fp.round` takes leaves a quotient of at most 53 bits, and of 53 bits unless the shift is 0. -/
theorem Fp.round_shift (x : Nat) :
    (x.log2 - 52 = 0 ∨ 2 ^ 52 ≤ x / 2 ^ (x.log2 - 52)) ∧ x / 2 ^ (x.log2 - 52) < 2 ^ 53 := by
  refine ⟨or_iff_not_imp_left.2 fun hsh => ?_, ?_⟩
  · rw [Nat.le_div_iff_mul_le (Nat.two_pow_pos _), ← pow_add, show 52 + (x.log2 - 52) = x.log2 by omega]
    exact Nat.log2_self_le (by rintro rfl; exact hsh rfl)
  · rw [Nat.div_lt_iff_lt_mul (Nat.two_pow_pos _), ← pow_add]
    exact Nat.lt_of_lt_of_le Nat.lt_log2_self (Nat.pow_le_pow_right (by decide) (by omega))

/-- All that `Fp.round` does: it rounds once, packs the significand, and answers an infinity past the greatest exponent. -/
theorem Fp.round_eq (neg : Bool) (num : Nat) {den : Nat} (hden : 0 < den) : ∃ sh q q', Fp.Rounding num den sh q q' ∧
    Fp.round neg num den =
      if 2047 * 2 ^ 52 ≤ sh * 2 ^ 52 + q' then Fp.inf neg else Fp.withSign neg (sh * 2 ^ 52 + q') := by
  let sh := (num / den).log2 - 52
  have hd : den <<< sh = den * 2 ^ sh := Nat.shiftLeft_eq ..
  have hq : num / (den <<< sh) = num / den / 2 ^ sh := by rw [hd, Nat.div_div_eq_div_mul]
  obtain ⟨hnormal, hlt⟩ := Fp.round_shift (num / den)
  refine ⟨sh, num / (den <<< sh), _, ⟨by rwa [hq], by rwa [hq], num % (den <<< sh), ?_, ?_, ?_⟩, rfl⟩
  · rw [hd]
    exact Nat.mod_lt _ (Nat.mul_pos hden (Nat.two_pow_pos _))
  · rw [← hd, Nat.mul_comm, Nat.div_add_mod]
  · rw [← hd]
    generalize den <<< sh = d, num / (den <<< sh) = q, num % (den <<< sh) = r
    split
    case isTrue h => simp at h; omega
    case isFalse h => simp at h; omega

theorem Fp.Rounding.le {num den sh q q' : Nat} (h : Fp.Rounding num den sh q q') : q ≤ q' ∧ q' ≤ q + 1 := by
  obtain ⟨r, -, -, hr⟩ := h.nearer
  omega

/-- No magnitude is nearer to `num / den` than the rounded one, whose significand is even where another is as near (R13). -/
theorem Fp.Rounding.nearest {num den sh q q' : Nat} (h : Fp.Rounding num den sh q q') (hden : 0 < den) (c : F64) :
    ((num : Int) - (q' * 2 ^ sh : Nat) * den).natAbs ≤ ((num : Int) - Fp.mag c * den).natAbs ∧
    (Fp.mag c ≠ q' * 2 ^ sh →
      ((num : Int) - (q' * 2 ^ sh : Nat) * den).natAbs = ((num : Int) - Fp.mag c * den).natAbs → q' % 2 = 0) := by
  obtain ⟨r, hr, hnum, hq'⟩ := h.nearer
  have hlow : q * 2 ^ sh * den = q * (den * 2 ^ sh) := by ring
  have hhigh : (q + 1) * 2 ^ sh * den = q * (den * 2 ^ sh) + den * 2 ^ sh := by ring
  have hne : Fp.mag c ≠ q' * 2 ^ sh → Fp.mag c * den ≠ q' * 2 ^ sh * den :=
    fun hc he => hc (Nat.eq_of_mul_eq_mul_right hden he)
  have hgap : Fp.mag c * den ≤ q * 2 ^ sh * den ∨ (q + 1) * 2 ^ sh * den ≤ Fp.mag c * den :=
    (Fp.mag_off_gap c h.normal).imp (Nat.mul_le_mul_right den) (Nat.mul_le_mul_right den)
  simp only [← Int.natCast_mul]
  generalize Fp.mag c * den = C at *
  rcases hq' with ⟨rfl, hr'⟩ | ⟨rfl, hr'⟩ <;> exact ⟨by omega, fun hc he => by have := hne hc; omega⟩

/-- Rounding goes past the greatest finite value exactly from the middle between it and 2^1024 on. -/
theorem Fp.Rounding.overflow_iff {num den sh q q' : Nat} (h : Fp.Rounding num den sh q q') (hden : 0 < den) :
    2047 * 2 ^ 52 ≤ sh * 2 ^ 52 + q' ↔ ((2 ^ 54 - 1) <<< 2044) * den ≤ num := by
  obtain ⟨r, hr, hnum, hq'⟩ := h.nearer
  have hlt := h.lt
  have hq1 := h.le
  rw [Nat.shiftLeft_eq, mul_right_comm, mul_assoc]
  have hp : 0 < den * 2 ^ 2044 := by positivity
  rcases Nat.lt_trichotomy sh 2045 with hsh | rfl | hsh
  · have hd : den * 2 ^ sh ≤ den * 2 ^ 2044 := Nat.mul_le_mul_left _ (pow_le_pow_right₀ (by decide) (by omega))
    have := Nat.mul_le_mul (show q + 1 ≤ 2 ^ 53 by omega) hd
    rw [Nat.add_mul] at this
    omega
  · have hd : den * 2 ^ 2045 = 2 * (den * 2 ^ 2044) := by rw [pow_succ, ← mul_assoc, mul_comm]
    rw [hd] at hr hnum hq'
    rcases Nat.lt_or_eq_of_le (Nat.le_of_lt_succ hlt) with hq | rfl
    · have := Nat.mul_le_mul_right (2 * (den * 2 ^ 2044)) (show q + 1 ≤ 2 ^ 53 - 1 by omega)
      rw [Nat.add_mul] at this
      omega
    · omega
  · have hd : 2 ^ 2 * (den * 2 ^ 2044) ≤ den * 2 ^ sh := by
      rw [mul_left_comm, ← pow_add]
      exact Nat.mul_le_mul_left _ (pow_le_pow_right₀ (by decide) (by omega))
    have hq := h.normal.resolve_left (by omega)
    have := Nat.mul_le_mul hq hd
    omega

theorem Fp.isFinite_inf (neg : Bool) : Fp.isFinite (Fp.inf neg) = false := by cases neg <;> decide

theorem Fp.isInf_inf (neg : Bool) : Fp.isInf (Fp.inf neg) = true := by cases neg <;> decide

theorem Fp.isNeg_inf (neg : Bool) : Fp.isNeg (Fp.inf neg) = neg := by cases neg <;> decide

theorem Fp.round_roundedOnce (sgn : Bool) (num : Nat) {den : Nat} (hden : 0 < den) :
    roundedOnce (Fp.round sgn num den) sgn num den := by
  obtain ⟨sh, q, q', h, he⟩ := Fp.round_eq sgn num hden
  have hover := h.overflow_iff hden
  rw [he, roundedOnce]
  split
  case isTrue hinf =>
    have hexp := Fp.isFinite_inf sgn
    exact ⟨Fp.isNeg_inf sgn, fun hc => absurd hc (by rw [hexp]; decide), iff_of_true hexp (hover.1 hinf),
      fun _ => Fp.isInf_inf sgn⟩
  case isFalse hfin =>
    have hbits : sh * 2 ^ 52 + q' < 2 ^ 63 := by omega
    have hq' := h.le
    have hlt := h.lt
    have hmag := Fp.mag_withSign sgn (h.normal.imp_right (·.trans hq'.1)) (by omega) (Nat.lt_of_not_le hfin)
    have hexp : Fp.isFinite (Fp.withSign sgn (sh * 2 ^ 52 + q')) = true := by
      rw [Fp.isFinite_iff, Fp.expField_withSign sgn hbits]
      omega
    rw [hmag, Fp.fracField_withSign sgn hbits]
    have hnot : Fp.isFinite (Fp.withSign sgn (sh * 2 ^ 52 + q')) ≠ false := by rw [hexp]; decide
    refine ⟨Fp.isNeg_withSign sgn hbits, fun _ c _ => ?_, iff_of_false hnot (hover.not.1 hfin), fun hc => absurd hc hnot⟩
    obtain ⟨hnear, htie⟩ := h.nearest hden c
    exact ⟨hnear, fun hc hd => by have := htie hc hd; omega⟩

theorem Fp.isFinite_of_roundedOnce {v : F64} {sgn : Bool} {num den : Nat} (h : roundedOnce v sgn num den)
    (hlt : num < 2 ^ 2044 * den) : Fp.isFinite v = true := by
  obtain ⟨-, -, hover, -⟩ := h
  refine (Bool.not_eq_false _).mp fun hc => ?_
  have hge := hover.1 hc
  rw [Nat.shiftLeft_eq, mul_assoc] at hge
  omega

/-! The operations on finite values. -/

section
variable {a b : F64} (ha : Fp.isFinite a = true) (hb : Fp.isFinite b = true)
include ha hb

theorem Fp.add_of_isFinite : Fp.add a b =
    if Fp.units a + Fp.units b = 0 then Fp.zero (Fp.isNeg a && Fp.isNeg b)
    else Fp.round (decide (Fp.units a + Fp.units b < 0)) (Fp.units a + Fp.units b).natAbs 1 := by
  simp [Fp.add, Fp.isNan_of_isFinite, Fp.isInf_of_isFinite, ha, hb]

theorem Fp.mul_of_isFinite :
    Fp.mul a b = Fp.round (Fp.isNeg a != Fp.isNeg b) (Fp.mag a * Fp.mag b) Fp.oneUnits := by
  simp [Fp.mul, Fp.isNan_of_isFinite, Fp.isInf_of_isFinite, ha, hb]

theorem Fp.div_of_isFinite (hne : Fp.mag b ≠ 0) :
    Fp.div a b = Fp.round (Fp.isNeg a != Fp.isNeg b) (Fp.mag a * Fp.oneUnits) (Fp.mag b) := by
  simp [Fp.div, Fp.isNan_of_isFinite, Fp.isInf_of_isFinite, ha, hb, hne]

theorem Fp.add_roundedOnce (hne : Fp.units a + Fp.units b ≠ 0) :
    roundedOnce (Fp.add a b) (decide (Fp.units a + Fp.units b < 0)) (Fp.units a + Fp.units b).natAbs 1 := by
  rw [Fp.add_of_isFinite ha hb, if_neg hne]
  exact Fp.round_roundedOnce _ _ Nat.one_pos

theorem Fp.add_of_sum_zero (h0 : Fp.units a + Fp.units b = 0) :
    Fp.add a b = if Fp.isNeg a = true ∧ Fp.isNeg b = true then 1#64 <<< 63 else 0#64 := by
  rw [Fp.add_of_isFinite ha hb, if_pos h0]
  cases Fp.isNeg a <;> cases Fp.isNeg b <;> decide

end

theorem Fp.oneUnits_eq : Fp.oneUnits = 2 ^ 1074 := by
  have hshift (n : Nat) : 1 <<< n = 2 ^ n := Nat.one_shiftLeft n
  exact hshift 1074

theorem Fp.oneUnits_pos : 0 < Fp.oneUnits := by
  rw [Fp.oneUnits_eq]
  positivity

/-! The square root. `Fp.sqrt` rounds `(2 * r + δ) / 2`, where `r` is the whole root and `δ` is 1 where it is not exact. -/

theorem Fp.sqrt_eq {a : F64} (ha : Fp.isFinite a = true) (hpos : Fp.isNeg a = false) (hne : Fp.mag a ≠ 0) :
    ∃ r δ, Fp.sqrt a = Fp.round false (2 * r + δ) 2 ∧ Fp.mag a * Fp.oneUnits < (r + 1) * (r + 1) ∧
      (δ = 0 ∧ r * r = Fp.mag a * Fp.oneUnits ∨ δ = 1 ∧ r * r < Fp.mag a * Fp.oneUnits) := by
  obtain ⟨hle, hlt⟩ := Fp.isqrt_spec (Fp.mag a * Fp.oneUnits)
  refine ⟨Fp.isqrt (Fp.mag a * Fp.oneUnits),
    if Fp.isqrt (Fp.mag a * Fp.oneUnits) * Fp.isqrt (Fp.mag a * Fp.oneUnits) = Fp.mag a * Fp.oneUnits then 0 else 1,
    ?_, hlt, ?_⟩
  · simp [Fp.sqrt, Fp.isNan_of_isFinite ha, Fp.isInf_of_isFinite ha, hpos, hne]
  · split
    case isTrue h => exact .inl ⟨rfl, h⟩
    case isFalse h => exact .inr ⟨rfl, Nat.lt_of_le_of_ne hle h⟩

/-- A root above 2^537, rounded, lies with another value not around the odd number `2 * r + 1`: both would be as near as
2^537 is, and magnitudes from 2^53 on are even. So the half unit of `Fp.sqrt` meets no tie. -/
theorem Fp.sum_ne_of_roundedOnce {v c : F64} {r δ : Nat} (hr : 2 ^ 537 ≤ r) (hδ : δ ≤ 1)
    (h : roundedOnce v false (2 * r + δ) 2) (hv : Fp.isFinite v = true) : Fp.mag c + Fp.mag v ≠ 2 * r + 1 := by
  intro hsum
  obtain ⟨-, hnear, -⟩ := h
  have hw := (hnear hv (Fp.withSign false (485 * 2 ^ 52 + 2 ^ 52)) (by decide)).1
  rw [Fp.mag_withSign false (.inr le_rfl) (by decide) (by decide), ← pow_add] at hw
  have hbig : 2 ^ 53 ≤ 2 ^ 537 := pow_le_pow_right₀ (by decide) (by decide)
  have hve := Fp.mag_even_of_le (a := v) (by omega)
  have hce := Fp.mag_even_of_le (a := c) (by omega)
  omega

/-- The whole root of a finite value is far below the overflow of `Fp.round`. -/
theorem Fp.root_lt_of_isFinite {a : F64} {r : Nat} (ha : Fp.isFinite a = true) (hle : r * r ≤ Fp.mag a * Fp.oneUnits) :
    r < 2 ^ 1586 := by
  refine Nat.mul_self_lt_mul_self_iff.1 (Nat.lt_of_le_of_lt hle ?_)
  calc Fp.mag a * Fp.oneUnits < 2 ^ 53 * 2 ^ 2045 * Fp.oneUnits :=
        Nat.mul_lt_mul_of_pos_right (Fp.mag_lt_of_isFinite ha) Fp.oneUnits_pos
    _ = 2 ^ 1586 * 2 ^ 1586 := by rw [Fp.oneUnits_eq, ← pow_add, ← pow_add, ← pow_add]

theorem Fp.le_root_of_mag_ne_zero {a : F64} {r : Nat} (hne : Fp.mag a ≠ 0)
    (hlt : Fp.mag a * Fp.oneUnits < (r + 1) * (r + 1)) : 2 ^ 537 ≤ r := by
  refine Nat.le_of_lt_succ (Nat.mul_self_lt_mul_self_iff.1 (Nat.lt_of_le_of_lt ?_ hlt))
  rw [← pow_add, Fp.oneUnits_eq, show 537 + 537 = 1074 from rfl]
  exact Nat.le_mul_of_pos_left _ (Nat.pos_of_ne_zero hne)

/-- `Fp.sqrt` is one rounding of the exact root or, where that is not whole, of the half above its whole part; it
is finite, and no value lies opposite to it across that half. -/
theorem Fp.sqrt_rounding {a : F64} (ha : Fp.isFinite a = true) (hpos : Fp.isNeg a = false) (hne : Fp.mag a ≠ 0) :
    ∃ r δ, roundedOnce (Fp.sqrt a) false (2 * r + δ) 2 ∧ Fp.isFinite (Fp.sqrt a) = true ∧
      (∀ c : F64, Fp.mag c + Fp.mag (Fp.sqrt a) ≠ 2 * r + 1) ∧ Fp.mag a * Fp.oneUnits < (r + 1) * (r + 1) ∧
      (δ = 0 ∧ r * r = Fp.mag a * Fp.oneUnits ∨ δ = 1 ∧ r * r < Fp.mag a * Fp.oneUnits) := by
  obtain ⟨r, δ, he, hlt, hδ⟩ := Fp.sqrt_eq ha hpos hne
  have hround : roundedOnce (Fp.sqrt a) false (2 * r + δ) 2 := he ▸ Fp.round_roundedOnce false _ (by decide)
  have hδ1 : δ ≤ 1 := by omega
  have hhigh := Fp.root_lt_of_isFinite ha (r := r) (by omega)
  have hfin : Fp.isFinite (Fp.sqrt a) = true := by
    have hpow : 2 ^ 1586 ≤ 2 ^ 2044 := pow_le_pow_right₀ (by decide) (by decide)
    exact Fp.isFinite_of_roundedOnce hround (by omega)
  exact ⟨r, δ, hround, hfin,
    fun c => Fp.sum_ne_of_roundedOnce (Fp.le_root_of_mag_ne_zero hne hlt) hδ1 hround hfin, hlt, hδ⟩

/-- `Fp.sqrt` gives the nearest value to the exact root, of two nearest the even one: the middle of it and any other value
`c`, squared, lies on the side of `c` of the number under the root (R17). -/
theorem Fp.sqrt_nearest {a : F64} (ha : Fp.isFinite a = true) (hpos : Fp.isNeg a = false) (hne : Fp.mag a ≠ 0) :
    Fp.isFinite (Fp.sqrt a) = true ∧ Fp.isNeg (Fp.sqrt a) = false ∧ ∀ c : F64, Fp.isFinite c = true →
      (Fp.mag c < Fp.mag (Fp.sqrt a) → (Fp.mag c + Fp.mag (Fp.sqrt a)) ^ 2 ≤ 4 * (Fp.mag a * Fp.oneUnits)) ∧
      (Fp.mag (Fp.sqrt a) < Fp.mag c → 4 * (Fp.mag a * Fp.oneUnits) ≤ (Fp.mag c + Fp.mag (Fp.sqrt a)) ^ 2) ∧
      (Fp.mag c ≠ Fp.mag (Fp.sqrt a) → (Fp.mag c + Fp.mag (Fp.sqrt a)) ^ 2 = 4 * (Fp.mag a * Fp.oneUnits) →
        Fp.fracField (Fp.sqrt a) % 2 = 0) := by
  obtain ⟨r, δ, ⟨hneg, hnear, -⟩, hfin, hmid, hlt, hδ⟩ := Fp.sqrt_rounding ha hpos hne
  refine ⟨hfin, hneg, fun c hc => ?_⟩
  obtain ⟨hdist, htie⟩ := hnear hfin c hc
  have hside : Fp.mag c + Fp.mag (Fp.sqrt a) ≤ 2 * r ∨ 2 * r + 2 ≤ Fp.mag c + Fp.mag (Fp.sqrt a) := by
    have := hmid c
    omega
  generalize Fp.mag a * Fp.oneUnits = n at *
  refine ⟨fun hcv => ?_, fun hvc => ?_, fun hcv heq => ?_⟩
  · have hsum : Fp.mag c + Fp.mag (Fp.sqrt a) ≤ 2 * r := by omega
    have hr : r * r ≤ n := by omega
    nlinarith
  · rcases hδ with ⟨rfl, hr⟩ | ⟨rfl, hr⟩
    · have hsum : 2 * r ≤ Fp.mag c + Fp.mag (Fp.sqrt a) := by omega
      nlinarith
    · have hsum : 2 * r + 2 ≤ Fp.mag c + Fp.mag (Fp.sqrt a) := by omega
      nlinarith
  · rcases hδ with ⟨rfl, hr⟩ | ⟨rfl, hr⟩
    · have hsum : Fp.mag c + Fp.mag (Fp.sqrt a) = 2 * r :=
        Nat.pow_left_injective (n := 2) (by decide) (by dsimp only; rw [heq, ← hr]; ring)
      exact htie hcv (by omega)
    · rcases hside with hsum | hsum <;> nlinarith

/-- Settles O59: one rounding is right by its grid (`Fp.Rounding`), and each operation on finite values is one rounding. -/
theorem numRoundsToNearest : Obligations.NumRoundsToNearest := by
  unfold Obligations.NumRoundsToNearest
  refine ⟨fun sgn num _ hden => Fp.round_roundedOnce sgn num hden, fun a b ha hb => ?_,
    fun a ha hpos hne => Fp.sqrt_nearest ha hpos hne⟩
  have hb' : Fp.isFinite (Fp.neg b) = true := by rwa [Fp.isFinite_neg]
  have hdiff : Fp.units a - Fp.units b = Fp.units a + Fp.units (Fp.neg b) := by rw [Fp.units_neg, Int.sub_eq_add_neg]
  refine ⟨Fp.add_roundedOnce ha hb, Fp.add_of_sum_zero ha hb, ?_, ?_, ?_, fun hne => ?_⟩
  · rw [hdiff]
    exact Fp.add_roundedOnce ha hb'
  · rw [hdiff]
    intro h0
    simpa [Fp.sub] using Fp.add_of_sum_zero ha hb' h0
  · rw [Fp.mul_of_isFinite ha hb]
    exact Fp.round_roundedOnce _ _ Fp.oneUnits_pos
  · rw [Fp.div_of_isFinite ha hb hne]
    exact Fp.round_roundedOnce _ _ (Nat.pos_of_ne_zero hne)

end Sys2Proof.Machine
end

section
/-! How long the results of the commands are: polynomials, code words, payloads. -/

namespace Sys2Proof.Machine

/-! Polynomials and code words (R191 to R217). -/

theorem one_le_pmax : 1 ≤ Config.pmax := by decide

theorem pmul_length_pos (a b : Poly) : 1 ≤ (pmul a b).length := by
  unfold pmul
  split
  · exact le_rfl
  · exact norm_length_pos _

theorem genPoly_length (k : Nat) : 1 ≤ (genPoly k).length ∧ (genPoly k).length ≤ k + 1 := by
  induction k with
  | zero => exact ⟨le_rfl, le_rfl⟩
  | succ k ih =>
    obtain ⟨hpos, hle⟩ := ih
    have hmul : (genPoly (k + 1)).length ≤ (genPoly k).length + 2 - 1 := pmul_length _ [1, gexp k] hpos (by simp)
    exact ⟨pmul_length_pos _ _, by omega⟩

theorem mono_length (d : Nat) (c : GF) : (mono d c).length = if c = 0 then 1 else d + 1 := by
  unfold mono
  split <;> simp [zeros]

theorem syn_length (cw : List GF) (k : Nat) : (syn cw k).length ≤ max 1 k := by
  simpa [syn] using norm_length_le ((List.range k).map fun i => ev (norm cw) (synPoint i)).reverse

theorem padd_length_pos (a b : Poly) : 1 ≤ (padd a b).length := norm_length_pos _

theorem pdivmod_length_pos (a b : Poly) (ha : 1 ≤ a.length) :
    1 ≤ (pdivmod a b).1.length ∧ 1 ≤ (pdivmod a b).2.length := by
  unfold pdivmod
  split
  · exact ⟨le_rfl, ha⟩
  · exact ⟨norm_length_pos _, norm_length_pos _⟩

/-- Neither result of the Euclidean loop has more than `k + 1` coefficients: as each `A` grows by what its `R` has lost, the
newer of the one and the older of the other have at most `k + 2` together, round after round (R206). -/
theorem keyLoop_length (k fuel : Nat) (r2 r1 a2 a1 : Poly) (hr1 : 1 ≤ r1.length) (hr : r1.length ≤ r2.length)
    (ha1 : 1 ≤ a1.length) (ha2 : 1 ≤ a2.length) (hnew : a1.length + r2.length ≤ k + 2)
    (hold : a2.length + r1.length ≤ k + 2) :
    (keyLoop k fuel r2 r1 a2 a1).1.length ≤ k + 1 ∧ (keyLoop k fuel r2 r1 a2 a1).2.length ≤ k + 1 := by
  induction fuel generalizing r2 r1 a2 a1 with
  | zero => exact ⟨show r1.length ≤ k + 1 by omega, show a1.length ≤ k + 1 by omega⟩
  | succ fuel ih =>
    unfold keyLoop
    split
    case isTrue =>
      obtain ⟨hq, hrest⟩ := pdivmod_length r2 r1 hr1
      obtain ⟨hq1, hrest1⟩ := pdivmod_length_pos r2 r1 (hr1.trans hr)
      have hmul := pmul_length (pdivmod r2 r1).1 a1 hq1 ha1
      have hadd := padd_length a2 (pmul (pdivmod r2 r1).1 a1) ha2
      exact ih _ _ _ _ hrest1 (by omega) (padd_length_pos _ _) ha1 (by omega) (by omega)
    case isFalse => exact ⟨show r1.length ≤ k + 1 by omega, show a1.length ≤ k + 1 by omega⟩

/-- Both polynomials of the key equation fit a register (R205, R25). -/
theorem key_length {sp sigma omega : Poly} {k : Nat} (hk : sp.length ≤ k) (hsp : 1 ≤ sp.length)
    (h : key sp k = .ok (sigma, omega)) : sigma.length ≤ k + 1 ∧ omega.length ≤ k + 1 := by
  have hmono : (mono k 1).length = k + 1 := by simp [mono_length]
  obtain ⟨hr, ha⟩ := keyLoop_length k (k + 1) (mono k 1) sp [0] [1] hsp (by omega) le_rfl le_rfl
    (by simp only [hmono, List.length_singleton]; omega) (by simp only [List.length_singleton]; omega)
  unfold key at h
  dsimp only at h
  split at h
  · cases h
  · cases h
    have hle (q : Poly) (v : GF) : (pmuls q v).length ≤ max 1 q.length := by
      simpa [pmuls] using norm_length_le (q.map fun c => gmul c v)
    exact ⟨(hle _ _).trans (by omega), (hle _ _).trans (by omega)⟩

theorem rsenc_length (data : List GF) (k : Nat) : (rsenc data k).length = data.length + k := by
  unfold rsenc
  split
  case isTrue h => simp [h]
  case isFalse h =>
    obtain ⟨hpos, hle⟩ := genPoly_length k
    have hrest := (pdivmod_length (norm (data ++ zeros k)) (genPoly k) hpos).2
    simp only [padTo, zeros, List.length_append, List.length_replicate] at *
    omega

theorem roots_length {sigma : Poly} {xl : List GF} (h : roots sigma = .ok xl) : xl.length ≤ 63 := by
  unfold roots at h
  dsimp only at h
  split at h
  · cases h
    simpa [betas] using List.length_filter_le (fun b => ev sigma b == 0) betas
  · cases h

theorem applyErrors_length (cw xl es : List GF) : (applyErrors cw xl es).length = cw.length := by
  unfold applyErrors
  generalize xl.zip es = l
  have hlen (out : List GF) : (l.foldl (fun out xe =>
      out.modify (cw.length - 1 - locLog xe.1) (fun c => c ^^^ xe.2)) out).length = out.length := by
    induction l generalizing out with
    | nil => rfl
    | cons xe l ih => rw [List.foldl_cons, ih, List.length_modify]
  exact hlen cw

theorem rsdec_length {cw out : List GF} {k cnt : Nat} (h : rsdec cw k = .ok (out, cnt)) :
    out.length = cw.length ∧ cnt ≤ 63 := by
  unfold rsdec at h
  dsimp only at h
  split at h
  · cases h
    exact ⟨rfl, Nat.zero_le _⟩
  · split at h
    · cases h
    · split at h
      · cases h
      case h_2 xl hroots =>
        split at h
        · cases h
        · cases h
          exact ⟨applyErrors_length _ _ _, roots_length hroots⟩

/-! The content codec (R235, R236, R245). -/

theorem sideFor_spec {ms : Nat} (h : ms ≤ 64) : ms ≤ sideFor ms * sideFor ms ∧ sideFor ms ≤ 8 := by
  unfold sideFor
  cases hf : (List.range 8).find? fun w => decide (ms ≤ w * w) with
  | none => exact ⟨h, le_rfl⟩
  | some w =>
    have hw := List.mem_range.1 (List.mem_of_find?_eq_some hf)
    exact ⟨by simpa using List.find?_some hf, by simpa using hw.le⟩

theorem finalParity_le {len : Nat} {ec : F64} (h : minSize len ec ≤ 64) :
    finalParity len ec + (2 + len) ≤ sideFor (minSize len ec) * sideFor (minSize len ec) := by
  have hside := (sideFor_spec h).1
  unfold finalParity evenDown
  simp only
  generalize sideFor (minSize len ec) * sideFor (minSize len ec) = n at *
  unfold minSize at *
  omega

theorem sideFor_sq_le {ms : Nat} (h : ms ≤ 64) : sideFor ms * sideFor ms ≤ 64 :=
  Nat.mul_le_mul (sideFor_spec h).2 (sideFor_spec h).2

theorem codeData_length (pay : List Byte) (nd : Nat) (h : pay.length + 2 ≤ nd) : (codeData pay nd).length = nd := by
  simp [codeData, zeros]
  omega

/-- Everything the checks of the content decoder answer is small (R245). -/
theorem cdecCheck_small {data out : List Byte} {len parity cnt : Nat} (hn : data.length ≤ Config.pmax)
    (h : cdecCheck data = .ok (len, parity, cnt, out)) : len < 2 ^ 8 ∧ parity ≤ Config.pmax ∧ cnt ≤ 63 := by
  have hlen : (data.getD 1 0).toNat < 2 ^ 8 := (data.getD 1 0).isLt
  have hpar : derivedParity data.length (data.getD 1 0).toNat ≤ Config.pmax := by
    unfold derivedParity evenDown
    omega
  unfold cdecCheck at h
  dsimp only at h
  split at h
  · cases h
  · split at h
    · cases h
    · split at h
      · cases h
        exact ⟨hlen, Nat.zero_le _, Nat.zero_le _⟩
      · split at h
        · cases h
        · split at h
          · cases h
          case h_2 hdec =>
            split at h
            · cases h
            · cases h
              exact ⟨hlen, hpar, (rsdec_length hdec).2⟩

end Sys2Proof.Machine
end

section
/-! What a command may write, and how it ends (R120, R391). Each update a completing command is made of keeps the invariants
(`SafeWrite`), so that one lemma per command (`Ends`) gives the frame and the invariants of every step. -/

open Sys2Proof.Certificates

namespace Sys2Proof.Machine

/-! The matrices the image commands store have as many cells as their dimensions say. -/

theorem length_flatMap_range {α : Type} (n m : Nat) (f : Nat → List α) (hf : ∀ i, (f i).length = m) :
    ((List.range n).flatMap f).length = n * m := by
  simp [List.length_flatMap, hf]

theorem lumaMatrix_length (s : State) : s.lumaMatrix.length = s.width * s.height := by simp [State.lumaMatrix]

theorem threshTable_length (w h : Nat) (lum : Array Byte) :
    (threshTable w h lum).length = (h - 79) * (w - 79) :=
  length_flatMap_range _ _ _ fun _ => by simp

theorem decideRow_length (w h : Nat) (lum : Array Byte) (thr : Array F64) (y : Nat) (xs : List Nat) (left upLeft : F64)
    (ups : List F64) : (decideRow w h lum thr y xs left upLeft ups).length = xs.length := by
  induction xs generalizing left upLeft ups with
  | nil => rfl
  | cons x xs ih => simp [decideRow, ih]

theorem decideRows_lengths (w h : Nat) (lum : Array Byte) (thr : Array F64) (ys : List Nat) (above : List F64) :
    (decideRows w h lum thr ys above).length = ys.length ∧
      ∀ row ∈ decideRows w h lum thr ys above, row.length = w := by
  induction ys generalizing above with
  | nil => exact ⟨rfl, fun _ h => nomatch h⟩
  | cons y ys ih =>
    obtain ⟨hlen, hrow⟩ := ih (decideRow w h lum thr y (List.range w) 0 0 above)
    refine ⟨congrArg (· + 1) hlen, fun row hmem => ?_⟩
    rcases List.mem_cons.1 hmem with rfl | hmem
    · rw [decideRow_length, List.length_range]
    · exact hrow row hmem

theorem binBits_length (w h : Nat) (lum : Array Byte) (thr : Array F64) : (binBits w h lum thr).length = h * w := by
  obtain ⟨hlen, hrow⟩ := decideRows_lengths w h lum thr (List.range h) []
  have hmap : ((decideRows w h lum thr (List.range h) []).zipIdx.map fun rowY => rowY.1.length) = List.replicate h w := by
    refine List.eq_replicate_iff.2 ⟨by simpa using hlen, fun n hn => ?_⟩
    obtain ⟨⟨row, y⟩, hmem, rfl⟩ := List.mem_map.1 hn
    exact hrow row (List.fst_mem_of_mem_zipIdx hmem)
  simp [binBits, List.length_flatMap, hmap]

theorem rectBits_length (g : Grid) (a : Mat3) (n : Nat) : (rectBits g a n).length = n * n :=
  length_flatMap_range _ _ _ fun _ => by simp

theorem renderBits_length (side r : Nat) (data : Array GF) : (renderBits side r data).length = r * r :=
  length_flatMap_range _ _ _ fun _ => by simp

theorem rgba_length (bits : List Bool) : (bits.flatMap rgbaOf).length = 4 * bits.length := by
  have hpix : ∀ b, (rgbaOf b).length = 4 := by decide
  simp [List.length_flatMap, hpix, Nat.mul_comm]

theorem cellSymbols_length (g : Grid) (ut gt : F64) (sc : Scale) (cells : Nat) :
    (cellSymbols g ut gt sc cells).length = cells * cells :=
  length_flatMap_range _ _ _ fun _ => by simp

theorem measure_cells_le {g : Grid} {sc : Scale} {cells : Nat} (h : measure g = .ok (sc, cells)) : cells ≤ 64 := by
  unfold measure at h
  split at h
  · cases h
  · split at h
    · cases h
    case h_2 hcount =>
      cases h
      unfold cellCount at hcount
      dsimp only at hcount
      split at hcount
      · cases hcount
      · cases hcount
        omega

theorem sideOf_le {v : F64} {n : Nat} (h : sideOf v = .ok n) : n ≤ Config.rmax := by
  unfold sideOf at h
  split at h
  · cases h
  · split at h
    · cases h
    · dsimp only at h
      split at h
      · cases h
      · cases h
        omega

/-! Each update of the state keeps the invariants. -/

/-- `spaceSize` with the sizes as arguments: the kernel, given the closed number `4 * (WMAX * HMAX)`, would count it out. -/
def spaceSizeOf (cmd sym img lum thr bit rct : Nat) (sp : Space) : Nat :=
  match sp with
  | .cmd => cmd
  | .sym => sym
  | .img => img
  | .lum => lum
  | .thr => thr
  | .bit => bit
  | .rct => rct

theorem spaceSizeOf_img (cmd sym img lum thr bit rct : Nat) : spaceSizeOf cmd sym img lum thr bit rct .img = img := rfl

theorem spaceSize_img : spaceSize .img = 4 * (Config.wmax * Config.hmax) :=
  have h : spaceSize = spaceSizeOf Config.cmdSize Config.symSize (4 * (Config.wmax * Config.hmax))
      (Config.wmax * Config.hmax) ((Config.wmax - 79) * (Config.hmax - 79)) (Config.wmax * Config.hmax)
      (Config.rmax * Config.rmax) := rfl
  (congrFun h .img).trans (spaceSizeOf_img ..)

section
variable {s : State} (hs : s.MemInv)
include hs

theorem State.memInv_storeCmd {i : Nat} {vs : List Word} (h : i + vs.length ≤ spaceSize .cmd) :
    (s.storeCmd i vs).MemInv := by
  obtain ⟨hcmd, hrest⟩ := hs
  exact ⟨memWf_memWrite _ _ _ _ hcmd (.inr h), hrest⟩

theorem State.memInv_storeImg {i : Nat} {vs : List Byte} (h : i + vs.length ≤ spaceSize .img) :
    (s.storeImg i vs).MemInv := by
  obtain ⟨hcmd, hsym, himg, hrest⟩ := hs
  exact ⟨hcmd, hsym, memWf_memWrite _ _ _ _ himg (.inr h), hrest⟩

theorem State.memInv_storeLum {i : Nat} {vs : List Byte} (h : i + vs.length ≤ spaceSize .lum) :
    (s.storeLum i vs).MemInv := by
  obtain ⟨hcmd, hsym, himg, hlum, hrest⟩ := hs
  exact ⟨hcmd, hsym, himg, memWf_memWrite _ _ _ _ hlum (.inr h), hrest⟩

theorem State.memInv_storeThr {i : Nat} {vs : List F64} (h : i + vs.length ≤ spaceSize .thr) :
    (s.storeThr i vs).MemInv := by
  obtain ⟨hcmd, hsym, himg, hlum, hthr, hrest⟩ := hs
  exact ⟨hcmd, hsym, himg, hlum, memWf_memWrite _ _ _ _ hthr (.inr h), hrest⟩

theorem State.memInv_storeBit {i : Nat} {vs : List Bool} (h : i + vs.length ≤ spaceSize .bit) :
    (s.storeBit i vs).MemInv := by
  obtain ⟨hcmd, hsym, himg, hlum, hthr, hbit, hrct⟩ := hs
  exact ⟨hcmd, hsym, himg, hlum, hthr, memWf_memWrite _ _ _ _ hbit (.inr h), hrct⟩

theorem State.memInv_storeRct {i : Nat} {vs : List Bool} (h : i + vs.length ≤ spaceSize .rct) :
    (s.storeRct i vs).MemInv := by
  obtain ⟨hcmd, hsym, himg, hlum, hthr, hbit, hrct⟩ := hs
  exact ⟨hcmd, hsym, himg, hlum, hthr, hbit, memWf_memWrite _ _ _ _ hrct (.inr h)⟩

end

theorem State.cacheInv_cacheGen {s : State} {k : Nat} (hk : k ≤ Config.kmax) (hs : s.CacheInv) :
    (s.cacheGen k).CacheInv := by
  obtain ⟨hgen, hpos, hle⟩ := hs
  have hgrown : growGen s.gen k = (List.range (max s.gcnt (k + 1))).map genPoly := by
    have hsplit : List.range (max s.gcnt (k + 1)) = List.range s.gcnt ++ (List.range (k + 1)).drop s.gcnt := by
      apply List.ext_getElem
      · simp; omega
      · intro i _ _
        simp [List.getElem_append]
        intro h
        omega
    rw [hsplit, List.map_append, ← hgen]
    rfl
  have hcnt : (s.cacheGen k).gcnt = max s.gcnt (k + 1) := by simp [State.gcnt, hgrown]
  refine ⟨?_, by omega, by omega⟩
  rw [hcnt]
  exact hgrown

/-- What the writes of a completing command, which have led from `s` to `t` while `CP` has yet to move on, leave as it was
and keep true. -/
structure SafeWrite (s t : State) : Prop where
  fixed : sameFixed s t
  record : sameRecord s t
  cp : t.cp = s.cp
  small : csrWritesSmall s t
  mem : s.MemInv → t.MemInv
  poly : s.PolyInv → t.PolyInv
  cache : s.CacheInv → t.CacheInv

theorem csrWritesSmall_iff (s t : State) : csrWritesSmall s t ↔
    (t.imgW = s.imgW ∨ t.imgW.toNat < 2 ^ 16) ∧ (t.imgH = s.imgH ∨ t.imgH.toNat < 2 ^ 16) ∧
    (t.codeSize = s.codeSize ∨ t.codeSize.toNat < 2 ^ 16) ∧ (t.codeVer = s.codeVer ∨ t.codeVer.toNat < 2 ^ 16) ∧
    (t.par = s.par ∨ t.par.toNat < 2 ^ 16) ∧ (t.plen = s.plen ∨ t.plen.toNat < 2 ^ 16) ∧
    (t.ncorr = s.ncorr ∨ t.ncorr.toNat < 2 ^ 16) ∧ (t.rectN = s.rectN ∨ t.rectN.toNat < 2 ^ 16) := by
  simp [csrWritesSmall]

theorem csrWritesSmall_of_sameIntCsr {s t : State} (h : sameIntCsr s t) : csrWritesSmall s t := by
  obtain ⟨h1, h2, h3, h4, h5, h6, h7, h8⟩ := h
  exact (csrWritesSmall_iff s t).2 ⟨.inl h1, .inl h2, .inl h3, .inl h4, .inl h5, .inl h6, .inl h7, .inl h8⟩

theorem csrWritesSmall_trans {s t u : State} (hst : csrWritesSmall s t) (htu : csrWritesSmall t u) :
    csrWritesSmall s u := by
  rw [csrWritesSmall_iff] at *
  grind

namespace SafeWrite

variable {s t : State}

theorem refl (s : State) : SafeWrite s s where
  fixed := ⟨rfl, rfl, rfl, rfl, rfl, fun _ => rfl⟩
  record := ⟨rfl, rfl, rfl, rfl⟩
  cp := rfl
  small := csrWritesSmall_of_sameIntCsr ⟨rfl, rfl, rfl, rfl, rfl, rfl, rfl, rfl⟩
  mem := id
  poly := id
  cache := id

theorem setX (h : SafeWrite s t) (r : XReg) (v : Scalar) : SafeWrite s (t.setX r v) := { h with }

theorem setP (h : SafeWrite s t) (r : PReg) {q : Poly} (hq : s.PolyInv → q.length ≤ Config.pmax) :
    SafeWrite s (t.setP r q) :=
  { h with poly := fun hs => t.polyInv_setP r q (h.poly hs) (hq hs) }

theorem cacheGen (h : SafeWrite s t) {k : Nat} (hk : k ≤ Config.kmax) : SafeWrite s (t.cacheGen k) :=
  { h with cache := fun hs => State.cacheInv_cacheGen hk (h.cache hs) }

theorem storeSym (h : SafeWrite s t) {a n : Nat} {vs : List Byte} (hfit : symFits a n = true) (hlen : vs.length ≤ n) :
    SafeWrite s (t.storeSym a vs) :=
  { h with
    mem := fun hs => t.memInv_storeSym a vs (h.mem hs) <| (symFits_iff _ _).2 <| by
      rcases (symFits_iff _ _).1 hfit with h | h <;> omega }

/-- Stores to the image memories. -/
theorem images (h : SafeWrite s t) {im lm : Mem Byte} {th : Mem F64} {bt rt : Mem Bool}
    (hmem : t.MemInv → State.MemInv { t with img := im, lum := lm, thr := th, bit := bt, rct := rt }) :
    SafeWrite s { t with img := im, lum := lm, thr := th, bit := bt, rct := rt } :=
  { h with mem := fun hs => hmem (h.mem hs) }

/-- The result CSRs of a command, each left alone or written with a value below 2^16 (R35). -/
theorem csrs (h : SafeWrite s t) {w hh cs cv pr pn nc rn : Word} {pl : Patterns} {m : Vector F64 9} {n : Nat}
    (hsmall : csrWritesSmall t { t with
      imgW := w, imgH := hh, codeSize := cs, codeVer := cv, par := pr, plen := pn, ncorr := nc, rectN := rn }) :
    SafeWrite s { t with
      imgW := w, imgH := hh, codeSize := cs, codeVer := cv, par := pr, plen := pn, ncorr := nc, rectN := rn,
      pl := pl, m := m, nans := n } :=
  { h with small := csrWritesSmall_trans h.small hsmall }

end SafeWrite

/-- How a command other than `HALT` ends (R120, R391): with a fault and no other effect, or completed. -/
def Ends (s : State) (r : Result) : Prop := (∃ c n, r = s.raise c n) ∨ ∃ t, SafeWrite s t ∧ r = t.complete

namespace Ends

variable {s : State}

theorem raise (c : ErrCode) (n : Nat) : Ends s (s.raise c n) := .inl ⟨c, n, rfl⟩

theorem complete {t : State} (h : SafeWrite s t) : Ends s t.complete := .inr ⟨t, h, rfl⟩

/-- A check that raises a fault comes before the rest of the command. -/
theorem guard {p : Prop} [Decidable p] {c : ErrCode} {n : Nat} {r : Result} (h : ¬ p → Ends s r) :
    Ends s (if p then s.raise c n else r) := by
  split
  · exact raise c n
  · exact h ‹_›

/-- The check that a range fits in `SYM` (R66). -/
theorem guardFits {a k : Nat} {c : ErrCode} {n : Nat} {r : Result} (h : symFits a k = true → Ends s r) :
    Ends s (if !symFits a k then s.raise c n else r) :=
  guard fun hfit => h (by simpa using hfit)

end Ends

end Sys2Proof.Machine
end

section
/-! How each command ends (R122 to R370): its checks in order, then its writes. -/

open Sys2Proof.Certificates

namespace Sys2Proof.Machine

variable (s : State)

/-! Control, field scalar and polynomial commands. -/

theorem execLi_ends (xd : XReg) (imm : BitVec 16) : Ends s (execLi xd imm s) := .complete (.setX (.refl s) xd imm)

theorem execLds_ends (xd xs1 : XReg) : Ends s (execLds xd xs1 s) := .guard fun _ => .complete (.setX (.refl s) ..)

theorem execSts_ends (xs1 xs2 : XReg) : Ends s (execSts xs1 xs2 s) :=
  .guard fun _ => .guard fun haddr => .complete <| .storeSym (.refl s) (n := 1)
    ((symFits_iff _ _).2 (.inr (Nat.lt_of_not_le haddr))) le_rfl

theorem execGfadd_ends (xd xs1 xs2 : XReg) : Ends s (execGfadd xd xs1 xs2 s) :=
  .guard fun _ => .guard fun _ => .complete (.setX (.refl s) ..)

theorem execGfmul_ends (xd xs1 xs2 : XReg) : Ends s (execGfmul xd xs1 xs2 s) :=
  .guard fun _ => .guard fun _ => .complete (.setX (.refl s) ..)

theorem execGfinv_ends (xd xs1 : XReg) : Ends s (execGfinv xd xs1 s) :=
  .guard fun _ => .guard fun _ => .complete (.setX (.refl s) ..)

theorem execGfdiv_ends (xd xs1 xs2 : XReg) : Ends s (execGfdiv xd xs1 xs2 s) :=
  .guard fun _ => .guard fun _ => .guard fun _ => .complete (.setX (.refl s) ..)

theorem execGfexp_ends (xd xs1 : XReg) : Ends s (execGfexp xd xs1 s) := .guard fun _ => .complete (.setX (.refl s) ..)

theorem execGflog_ends (xd xs1 : XReg) : Ends s (execGflog xd xs1 s) := by
  refine .guard fun _ => ?_
  split
  · exact .raise ..
  · exact .complete (.setX (.refl s) ..)

theorem execPzero_ends (pd : PReg) : Ends s (execPzero pd s) := .complete (.setP (.refl s) pd fun _ => one_le_pmax)

theorem execPone_ends (pd : PReg) : Ends s (execPone pd s) := .complete (.setP (.refl s) pd fun _ => one_le_pmax)

theorem execPmono_ends (pd : PReg) (xs1 xs2 : XReg) : Ends s (execPmono pd xs1 xs2 s) := by
  refine .guard fun hgf => .guard fun hlen => .complete (.setP (.refl s) pd fun _ => ?_)
  rw [mono_length]
  split
  case isTrue => exact one_le_pmax
  case isFalse hc =>
    have hne : s.natX xs2 ≠ 0 := fun h0 => hc <| by
      rw [scalarGF, show s.getX xs2 = 0 from BitVec.eq_of_toNat_eq h0]
      rfl
    exact Nat.le_of_not_lt fun hlt => hlen ⟨hne, hlt⟩

theorem execPld_ends (pd : PReg) (xs1 xs2 : XReg) : Ends s (execPld pd xs1 xs2 s) := by
  refine .guard fun hn => .guardFits fun _ => ?_
  split
  · exact .raise ..
  · exact .complete (.setP (.refl s) pd fun _ => by simp; omega)

theorem execPst_ends (ps : PReg) (xs1 : XReg) : Ends s (execPst ps xs1 s) :=
  .guardFits fun hfit => .complete (.storeSym (.refl s) hfit (by simp))

theorem execPdeg_ends (xd : XReg) (ps1 : PReg) : Ends s (execPdeg xd ps1 s) := .complete (.setX (.refl s) ..)

theorem execPcoef_ends (xd : XReg) (ps1 : PReg) (xs2 : XReg) : Ends s (execPcoef xd ps1 xs2 s) :=
  .complete (.setX (.refl s) ..)

theorem execPcidx_ends (xd : XReg) (ps1 : PReg) (xs2 : XReg) : Ends s (execPcidx xd ps1 xs2 s) := by
  unfold execPcidx
  split
  · exact .raise ..
  · exact .complete (.setX (.refl s) ..)

theorem execPeq_ends (xd : XReg) (ps1 ps2 : PReg) : Ends s (execPeq xd ps1 ps2 s) := .complete (.setX (.refl s) ..)

theorem execPisz_ends (xd : XReg) (ps1 : PReg) : Ends s (execPisz xd ps1 s) := .complete (.setX (.refl s) ..)

theorem execPeval_ends (xd : XReg) (ps1 : PReg) (xs2 : XReg) : Ends s (execPeval xd ps1 xs2 s) :=
  .guard fun _ => .complete (.setX (.refl s) ..)

theorem execPadd_ends (pd ps1 ps2 : PReg) : Ends s (execPadd pd ps1 ps2 s) :=
  .complete <| .setP (.refl s) pd fun hs =>
    (padd_length _ _ (hs ps1).2.1).trans (max_le (hs ps1).2.2 (hs ps2).2.2)

theorem execPmuls_ends (pd ps1 : PReg) (xs2 : XReg) : Ends s (execPmuls pd ps1 xs2 s) :=
  .guard fun _ => .complete <| .setP (.refl s) pd fun hs => (pmuls_length _ _ (hs ps1).2.1).trans (hs ps1).2.2

theorem execPmul_ends (pd ps1 ps2 : PReg) : Ends s (execPmul pd ps1 ps2 s) := by
  refine .guard fun hlen => .complete (.setP (.refl s) pd fun hs => ?_)
  have hmul := pmul_length (s.getP ps1) (s.getP ps2) (hs ps1).2.1 (hs ps2).2.1
  by_cases hz : (polyIsZero (s.getP ps1) || polyIsZero (s.getP ps2)) = true
  · simp [pmul, hz, one_le_pmax]
  · simp only [Bool.or_eq_true, not_or, Bool.not_eq_true] at hz
    simp [hz] at hlen
    omega

theorem execPdiv_ends (pq ps1 ps2 pr : PReg) : Ends s (execPdiv pq ps1 ps2 pr s) := by
  have hlen (hs : s.PolyInv) : (pdivmod (s.getP ps1) (s.getP ps2)).1.length ≤ Config.pmax ∧
      (pdivmod (s.getP ps1) (s.getP ps2)).2.length ≤ Config.pmax := by
    obtain ⟨-, -, hle1⟩ := hs ps1
    obtain ⟨-, hpos2, hle2⟩ := hs ps2
    have := pdivmod_length (s.getP ps1) (s.getP ps2) hpos2
    omega
  exact .guard fun _ => .guard fun _ => .complete <|
    .setP (.setP (.refl s) pq fun hs => (hlen hs).1) pr fun hs => (hlen hs).2

/-! Reed-Solomon commands. -/

theorem execRsgen_ends (pd : PReg) (xs1 : XReg) : Ends s (execRsgen pd xs1 s) := by
  refine .guard fun hk => .complete (.cacheGen (.setP (.refl s) pd fun _ => ?_) (Nat.le_of_not_lt hk))
  have := (genPoly_length (s.natX xs1)).2
  simp only [Config.kmax, Config.pmax] at *
  omega

theorem execRsenc_ends (xs0 xs1 xs2 xs3 : XReg) : Ends s (execRsenc xs0 xs1 xs2 xs3 s) := by
  refine .guard fun _ => .guard fun hk => .guard fun _ => .guardFits fun _ => .guardFits fun hfit => ?_
  split
  · exact .raise ..
  · exact .complete <| .cacheGen (.storeSym (.refl s) hfit (by simp [rsenc_length])) (Nat.le_of_not_lt hk)

theorem execRssyn_ends (pd : PReg) (xs1 xs2 xs3 : XReg) : Ends s (execRssyn pd xs1 xs2 xs3 s) := by
  refine .guard fun _ => .guard fun hk => .guardFits fun _ => ?_
  split
  · exact .raise ..
  · refine .complete (.setP (.refl s) pd fun _ => (syn_length _ _).trans ?_)
    simp only [Config.kmax, Config.pmax] at *
    omega

theorem execRskey_ends (psigma ps1 : PReg) (xs2 : XReg) (pomega : PReg) :
    Ends s (execRskey psigma ps1 xs2 pomega s) := by
  refine .guard fun _ => .guard fun hk => .guard fun hdeg => ?_
  split
  · exact .raise ..
  case h_2 sigma omega hkey =>
    have hlen (hs : s.PolyInv) := key_length (by unfold deg at hdeg; omega) (hs ps1).2.1 hkey
    have hmax : s.natX xs2 + 1 ≤ Config.pmax := by simp only [Config.kmax, Config.pmax] at *; omega
    exact .complete <| .setP (.setP (.refl s) psigma fun hs => (hlen hs).1.trans hmax) pomega
      fun hs => (hlen hs).2.trans hmax

theorem execRsroot_ends (xd : XReg) (ps1 : PReg) (xs2 : XReg) : Ends s (execRsroot xd ps1 xs2 s) := by
  unfold execRsroot
  dsimp only
  split
  · exact .raise ..
  · exact .guardFits fun hfit => .complete (.setX (.storeSym (.refl s) hfit (by simp)) ..)

theorem execRsmag_ends (xs0 : XReg) (ps1 : PReg) (xs2 xs3 : XReg) : Ends s (execRsmag xs0 ps1 xs2 xs3 s) := by
  refine .guard fun _ => .guardFits fun _ => .guardFits fun hfit => ?_
  split
  · split
    · exact .raise ..
    · exact .raise ..
  · exact .guard fun _ => .complete (.storeSym (.refl s) hfit (by simp [mags]))

theorem execRsdec_ends (xs0 xs1 xs2 xs3 : XReg) : Ends s (execRsdec xs0 xs1 xs2 xs3 s) := by
  refine .guard fun _ => .guard fun _ => .guardFits fun _ => .guardFits fun hfit => ?_
  split
  · exact .raise ..
  · split
    · exact .raise ..
    case h_2 out cnt hdec =>
      obtain ⟨hlen, hcnt⟩ := rsdec_length hdec
      exact .complete (.csrs (.storeSym (.refl s) hfit (by simpa using hlen.le))
        (by simp [csrWritesSmall_iff]; omega))

/-! Content codec commands. -/

theorem execCenc_ends (xs0 xs1 xs2 : XReg) : Ends s (execCenc xs0 xs1 xs2 s) := by
  refine .guard fun _ => .guard fun _ => .guard fun hms => .guardFits fun _ => .guardFits fun hfit => ?_
  split
  · exact .raise ..
  · have hms : minSize (s.natX xs2) s.eclvl ≤ 64 := Nat.le_of_not_lt hms
    have hpar := finalParity_le hms
    have hsq := sideFor_sq_le hms
    have hside := (sideFor_spec hms).2
    refine .complete (.csrs (.cacheGen (.storeSym (.refl s) hfit ?_) ?_) ?_)
    · rw [List.length_map, rsenc_length, codeData_length]
      · omega
      · simp
        omega
    · simp only [Config.kmax]
      omega
    · simp [csrWritesSmall_iff]
      omega

theorem execCdec_ends (xs0 xs1 xs2 : XReg) : Ends s (execCdec xs0 xs1 xs2 s) := by
  refine .guard fun hn => .guard fun _ => .guardFits fun _ => ?_
  split
  · exact .raise ..
  case h_2 len parity cnt out hdec =>
    refine .guardFits fun hfit => .guard fun _ => ?_
    obtain ⟨hlen, hpar, hcnt⟩ := cdecCheck_small (by simp; omega) hdec
    simp only [Config.pmax] at hpar
    refine .complete (.csrs (.storeSym (.refl s) hfit ?_) ?_)
    · simp
    · simp [csrWritesSmall_iff]
      omega

/-! Image commands. -/

theorem dimFault_eq_none {s : State} (h : s.dimFault = none) : s.width ≤ Config.wmax ∧ s.height ≤ Config.hmax := by
  rcases s.dimFault_cases with ⟨_, h'⟩ | ⟨_, _, h'⟩ | ⟨hw, hh, _⟩
  · cases h.symm.trans h'
  · cases h.symm.trans h'
  · exact ⟨hw, hh⟩

theorem blockFault_eq_none {s : State} (h : s.blockFault = none) : s.width ≤ Config.wmax ∧ s.height ≤ Config.hmax := by
  cases hd : s.dimFault with
  | none => exact dimFault_eq_none hd
  | some e =>
    unfold State.blockFault at h
    rw [hd] at h
    cases h

theorem withLuma_safe {s t : State} (h : SafeWrite s t) (hw : t.width ≤ Config.wmax) (hh : t.height ≤ Config.hmax) :
    SafeWrite s t.withLuma :=
  h.images fun hs => State.memInv_storeLum hs <| by
    rw [lumaMatrix_length, Nat.zero_add]
    exact Nat.mul_le_mul hw hh

theorem withThresh_safe {s t : State} (h : SafeWrite s t) (hw : t.width ≤ Config.wmax) (hh : t.height ≤ Config.hmax) :
    SafeWrite s t.withThresh :=
  h.images fun hs => State.memInv_storeThr hs <| by
    rw [threshTable_length, Nat.zero_add, Nat.mul_comm]
    exact Nat.mul_le_mul (Nat.sub_le_sub_right hw 79) (Nat.sub_le_sub_right hh 79)

theorem withBinz_safe {s t : State} (h : SafeWrite s t) (hw : t.width ≤ Config.wmax) (hh : t.height ≤ Config.hmax) :
    SafeWrite s t.withBinz :=
  h.images fun hs => State.memInv_storeBit hs <| by
    rw [binBits_length, Nat.zero_add, Nat.mul_comm]
    exact Nat.mul_le_mul hw hh

theorem execLuma_ends : Ends s (execLuma s) := by
  unfold execLuma
  split
  · exact .raise ..
  case h_2 hdim =>
    obtain ⟨hw, hh⟩ := dimFault_eq_none hdim
    exact .complete (withLuma_safe (.refl s) hw hh)

theorem execThresh_ends : Ends s (execThresh s) := by
  unfold execThresh
  split
  · exact .raise ..
  case h_2 hdim =>
    obtain ⟨hw, hh⟩ := blockFault_eq_none hdim
    exact .complete (withThresh_safe (.refl s) hw hh)

theorem execBinz_ends : Ends s (execBinz s) := by
  unfold execBinz
  split
  · exact .raise ..
  case h_2 hdim =>
    obtain ⟨hw, hh⟩ := blockFault_eq_none hdim
    exact .complete (withBinz_safe (.refl s) hw hh)

theorem execBinarize_ends : Ends s (execBinarize s) := by
  unfold execBinarize
  split
  · exact .raise ..
  case h_2 hdim =>
    obtain ⟨hw, hh⟩ := blockFault_eq_none hdim
    exact .complete (withBinz_safe (withThresh_safe (withLuma_safe (.refl s) hw hh) hw hh) hw hh)

theorem execLocf_ends : Ends s (execLocf s) := by
  unfold execLocf
  split
  · exact .raise ..
  · split
    · exact .raise ..
    · exact .complete (.csrs (.refl s) (SafeWrite.refl s).small)

theorem execLoca_ends : Ends s (execLoca s) := by
  unfold execLoca
  split
  · exact .raise ..
  · exact .guard fun _ => .complete (.csrs (.refl s) (SafeWrite.refl s).small)

theorem execLocate_ends : Ends s (execLocate s) := by
  unfold execLocate
  split
  · exact .raise ..
  · split
    · exact .raise ..
    · exact .guard fun _ => .complete (.csrs (.refl s) (SafeWrite.refl s).small)

theorem execXform_ends : Ends s (execXform s) := by
  unfold execXform
  split
  · exact .raise ..
  · refine .guard fun _ => ?_
    split
    · exact .raise ..
    case h_2 n hside =>
      have hn := sideOf_le hside
      refine .complete (.csrs (.images (.refl s) fun hs => State.memInv_storeRct hs ?_) ?_)
      · rw [rectBits_length, Nat.zero_add]
        exact Nat.mul_le_mul hn hn
      · have := Config.rmax_lt
        simp [csrWritesSmall_iff]
        omega

theorem execExtract_ends (xs0 : XReg) : Ends s (execExtract xs0 s) := by
  refine .guard fun _ => ?_
  dsimp only
  split
  · exact .raise ..
  case h_2 sc cells hcells =>
    have hle := measure_cells_le hcells
    refine .guardFits fun hfit => .complete (.csrs (.storeSym (.refl s) hfit ?_) ?_)
    · rw [List.length_map, cellSymbols_length]
    · simp [csrWritesSmall_iff]
      omega

theorem execRender_ends (xs1 : XReg) : Ends s (execRender xs1 s) := by
  refine .guard fun _ => .guard fun hres => .guardFits fun _ => ?_
  split
  · exact .raise ..
  · refine .guard fun _ => ?_
    have hw : s.res.toNat ≤ Config.wmax := by omega
    have hh : s.res.toNat ≤ Config.hmax := by omega
    have hsq := Nat.mul_le_mul hw hh
    refine .complete (.csrs (.images (.refl s) fun hs => State.memInv_storeImg (State.memInv_storeBit hs ?_) ?_) ?_)
    · rw [renderBits_length, Nat.zero_add]
      exact hsq
    · rw [rgba_length, renderBits_length, Nat.zero_add, spaceSize_img]
      exact Nat.mul_le_mul_left 4 hsq
    · have hsmall : s.res.toNat < 2 ^ 16 := by
        have := Config.wmax_le
        omega
      exact (csrWritesSmall_iff _ _).2
        ⟨.inr hsmall, .inr hsmall, .inl rfl, .inl rfl, .inl rfl, .inl rfl, .inl rfl, .inl rfl⟩

end Sys2Proof.Machine
end

section
/-! Every command and every step: `CommandEnds`, `StepStops`, and the four invariants a step keeps. -/

open Sys2Proof.Certificates

namespace Sys2Proof.Machine

theorem exec_ends (s : State) {i : Instr} (h : i ≠ .halt) : Ends s (exec i s) := by
  cases i with
  | halt => exact absurd rfl h
  | li xd imm => exact execLi_ends s xd imm
  | lds xd xs1 => exact execLds_ends s xd xs1
  | sts xs1 xs2 => exact execSts_ends s xs1 xs2
  | gfadd xd xs1 xs2 => exact execGfadd_ends s xd xs1 xs2
  | gfmul xd xs1 xs2 => exact execGfmul_ends s xd xs1 xs2
  | gfinv xd xs1 => exact execGfinv_ends s xd xs1
  | gfdiv xd xs1 xs2 => exact execGfdiv_ends s xd xs1 xs2
  | gfexp xd xs1 => exact execGfexp_ends s xd xs1
  | gflog xd xs1 => exact execGflog_ends s xd xs1
  | pzero pd => exact execPzero_ends s pd
  | pone pd => exact execPone_ends s pd
  | pmono pd xs1 xs2 => exact execPmono_ends s pd xs1 xs2
  | pld pd xs1 xs2 => exact execPld_ends s pd xs1 xs2
  | pst ps xs1 => exact execPst_ends s ps xs1
  | pdeg xd ps1 => exact execPdeg_ends s xd ps1
  | pcoef xd ps1 xs2 => exact execPcoef_ends s xd ps1 xs2
  | pcidx xd ps1 xs2 => exact execPcidx_ends s xd ps1 xs2
  | peq xd ps1 ps2 => exact execPeq_ends s xd ps1 ps2
  | pisz xd ps1 => exact execPisz_ends s xd ps1
  | peval xd ps1 xs2 => exact execPeval_ends s xd ps1 xs2
  | padd pd ps1 ps2 => exact execPadd_ends s pd ps1 ps2
  | pmuls pd ps1 xs2 => exact execPmuls_ends s pd ps1 xs2
  | pmul pd ps1 ps2 => exact execPmul_ends s pd ps1 ps2
  | pdiv pq ps1 ps2 pr => exact execPdiv_ends s pq ps1 ps2 pr
  | rsgen pd xs1 => exact execRsgen_ends s pd xs1
  | rsenc xs0 xs1 xs2 xs3 => exact execRsenc_ends s xs0 xs1 xs2 xs3
  | rssyn pd xs1 xs2 xs3 => exact execRssyn_ends s pd xs1 xs2 xs3
  | rskey psigma ps1 xs2 pomega => exact execRskey_ends s psigma ps1 xs2 pomega
  | rsroot xd ps1 xs2 => exact execRsroot_ends s xd ps1 xs2
  | rsmag xs0 ps1 xs2 xs3 => exact execRsmag_ends s xs0 ps1 xs2 xs3
  | rsdec xs0 xs1 xs2 xs3 => exact execRsdec_ends s xs0 xs1 xs2 xs3
  | cenc xs0 xs1 xs2 => exact execCenc_ends s xs0 xs1 xs2
  | cdec xs0 xs1 xs2 => exact execCdec_ends s xs0 xs1 xs2
  | luma => exact execLuma_ends s
  | thresh => exact execThresh_ends s
  | binz => exact execBinz_ends s
  | binarize => exact execBinarize_ends s
  | locf => exact execLocf_ends s
  | loca => exact execLoca_ends s
  | locate => exact execLocate_ends s
  | xform => exact execXform_ends s
  | extract xs0 => exact execExtract_ends s xs0
  | render xs1 => exact execRender_ends s xs1

theorem SafeWrite.completed_endsAs {s t : State} (h : SafeWrite s t) : endsAs s t.completed :=
  .inl ⟨congrArg (· + 1#32) h.cp, h.record⟩

/-- Settles O8: `HALT` writes `STATUS` alone, and every other command ends as `exec_ends` says. -/
theorem commandEnds : Obligations.CommandEnds := by
  unfold Obligations.CommandEnds
  intro i s
  by_cases hi : i = .halt
  case pos =>
    subst hi
    exact ⟨s.halted, rfl, (SafeWrite.refl s).fixed, (SafeWrite.refl s).small, .inl ⟨rfl, rfl⟩⟩
  case neg =>
    rcases exec_ends s hi with ⟨c, n, hex⟩ | ⟨t, ht, hex⟩
    · exact ⟨s.faulted c n, hex, (SafeWrite.refl s).fixed, (SafeWrite.refl s).small, .inr ⟨hi, .inr ⟨c, n, rfl⟩⟩⟩
    · exact ⟨t.completed, hex, ht.fixed, ht.small, .inr ⟨hi, ht.completed_endsAs⟩⟩

/-! The step: what the busy engine and the host's move on an idle engine can do. -/

/-- The engine's next state: from `HALT`, a fault, or a completed command that was fetched inside `CMD`. -/
inductive EngineNext (s : State) : State → Prop
  | halted : EngineNext s s.halted
  | faulted (c : ErrCode) (n : Nat) : EngineNext s (s.faulted c n)
  | completed {t : State} (hcp : s.cp.toNat < Config.cmdSize) (ht : SafeWrite s t) : EngineNext s t.completed

theorem engineStep_next (s : State) : ∃ t, engineStep s = .next t ∧ EngineNext s t := by
  unfold engineStep
  split
  case h_1 e _ => exact ⟨_, rfl, .faulted e.1 e.2⟩
  case h_2 i hfetch =>
    have hcp : s.cp.toNat < Config.cmdSize := by
      by_contra hge
      rw [s.fetch_overrun (Nat.le_of_not_lt hge)] at hfetch
      cases hfetch
    by_cases hi : i = .halt
    · subst hi
      exact ⟨s.halted, rfl, .halted⟩
    · rcases exec_ends s hi with ⟨c, n, hex⟩ | ⟨t, ht, hex⟩
      · exact ⟨_, hex, .faulted c n⟩
      · exact ⟨_, hex, .completed hcp ht⟩

/-- The host's next state: a poll, a reset, a CSR, or one cell of one memory, which then stays in its space. -/
inductive HostNext (s : State) : State → Prop
  | poll : HostNext s s
  | reset : HostNext s s.hostReset
  | csr (n : Nat) (v : BitVec 64) : HostNext s (s.writeCsr n v)
  | cell {cm : Mem Word} {sy im lm : Mem Byte} {th : Mem F64} {bt rt : Mem Bool}
      (hmem : s.MemInv →
        State.MemInv { s with cmd := cm, sym := sy, img := im, lum := lm, thr := th, bit := bt, rct := rt }) :
      HostNext s { s with cmd := cm, sym := sy, img := im, lum := lm, thr := th, bit := bt, rct := rt }

/-- How a move of the host on an idle engine ends: it has its effect, or it names a cell that does not exist (log 8). -/
def HostEnds (s : State) (r : Result) : Prop :=
  (∃ t, r = .next t ∧ HostNext s t) ∨ ∃ sp i, spaceSize sp ≤ i ∧ r = .fault (.noSuchCell sp i)

theorem hostStore_ends {s t : State} {sp : Space} {i : Nat} (h : i < spaceSize sp → HostNext s t) :
    HostEnds s (hostStore sp i t) := by
  unfold hostStore
  split
  case isTrue hi => exact .inl ⟨t, rfl, h hi⟩
  case isFalse hi => exact .inr ⟨sp, i, Nat.le_of_not_lt hi, rfl⟩

theorem hostAct_ends {s : State} (hidle : busyBit s.status = false) (h : HostMove) : HostEnds s (s.hostAct h) := by
  have idle {r : Result} (hr : HostEnds s r) : HostEnds s (if busyBit s.status then .refused .hostBusy else r) := by
    simpa [hidle] using hr
  cases h with
  | poll => exact .inl ⟨_, rfl, .poll⟩
  | reset => exact .inl ⟨_, rfl, .reset⟩
  | writeCsr n v => exact idle (.inl ⟨_, rfl, .csr n v⟩)
  | writeCmd i v => exact idle (hostStore_ends fun hi => .cell fun hs => State.memInv_storeCmd hs hi)
  | writeSym i v =>
    exact idle (hostStore_ends fun hi => .cell fun hs => s.memInv_storeSym i [v] hs ((symFits_iff _ _).2 (.inr hi)))
  | writeImg i v => exact idle (hostStore_ends fun hi => .cell fun hs => State.memInv_storeImg hs hi)
  | writeLum i v => exact idle (hostStore_ends fun hi => .cell fun hs => State.memInv_storeLum hs hi)
  | writeThr i v => exact idle (hostStore_ends fun hi => .cell fun hs => State.memInv_storeThr hs hi)
  | writeBit i v => exact idle (hostStore_ends fun hi => .cell fun hs => State.memInv_storeBit hs hi)
  | writeRct i v => exact idle (hostStore_ends fun hi => .cell fun hs => State.memInv_storeRct hs hi)

/-- Settles O16: a step stops at the host's move alone (`hostAct_ends`); the engine's step always goes on. -/
theorem stepStops : Obligations.StepStops := by
  unfold Obligations.StepStops
  intro s
  rcases step_cases s with ⟨-, rest, -, hstep⟩ | ⟨-, rest, -, hstep⟩ | ⟨-, -, -, hstep⟩ | ⟨-, -, hstep⟩ |
    ⟨hidle, h, rest, hq, hstep⟩
  · exact .inl ⟨_, hstep⟩
  · obtain ⟨t, ht, -⟩ := engineStep_next { s with hostq := rest }
    exact .inl ⟨t, hstep.trans ht⟩
  · obtain ⟨t, ht, -⟩ := engineStep_next s
    exact .inl ⟨t, hstep.trans ht⟩
  · exact .inl ⟨s, hstep⟩
  · rcases hostAct_ends (s := { s with hostq := rest }) hidle h with ⟨t, ht, -⟩ | ⟨sp, i, hi, hf⟩
    · exact .inl ⟨t, hstep.trans ht⟩
    · exact .inr ⟨h, rest, sp, i, ⟨hidle, hq⟩, hi, hstep.trans hf⟩

/-- All the states a step leads to, once a move of the host that passes with it is taken off its queue. -/
inductive StepNext (s : State) : State → Prop
  | reset : StepNext s s.hostReset
  | engine {t : State} (hbusy : busyBit s.status = true) (ht : EngineNext s t) : StepNext s t
  | host {t : State} (hidle : busyBit s.status = false) (ht : HostNext s t) : StepNext s t

theorem step_next {s t : State} (h : step s = .next t) : ∃ q, StepNext { s with hostq := q } t := by
  have engine {q : List HostMove} (hbusy : busyBit s.status = true) (hstep : step s = engineStep { s with hostq := q }) :
      StepNext { s with hostq := q } t := by
    obtain ⟨u, hu, hnext⟩ := engineStep_next { s with hostq := q }
    cases h.symm.trans (hstep.trans hu)
    exact .engine hbusy hnext
  rcases step_cases s with ⟨-, rest, -, hstep⟩ | ⟨hbusy, rest, -, hstep⟩ | ⟨hbusy, -, -, hstep⟩ | ⟨hidle, -, hstep⟩ |
    ⟨hidle, m, rest, -, hstep⟩
  · cases h.symm.trans hstep
    exact ⟨rest, .reset⟩
  · exact ⟨rest, engine hbusy hstep⟩
  · exact ⟨s.hostq, engine hbusy hstep⟩
  · cases h.symm.trans hstep
    exact ⟨s.hostq, .host hidle .poll⟩
  · rcases hostAct_ends (s := { s with hostq := rest }) hidle m with ⟨u, hu, hnext⟩ | ⟨sp, i, -, hf⟩
    · cases h.symm.trans (hstep.trans hu)
      exact ⟨rest, .host hidle hnext⟩
    · cases h.symm.trans (hstep.trans hf)

/-! The state after reset (R48). -/

theorem State.reset_polyInv : State.reset.PolyInv := by
  intro r
  have hreg : State.reset.getP r = [0] := by simp [State.getP, State.reset]
  rw [hreg]
  exact ⟨rfl, le_rfl, one_le_pmax⟩

theorem State.reset_statusInv : State.reset.StatusInv :=
  ⟨.inl rfl, fun _ => ⟨rfl, rfl, rfl⟩, rfl, Nat.zero_le _⟩

theorem State.reset_cacheInv : State.reset.CacheInv := ⟨rfl, le_rfl, by decide⟩

/-- Settles O10. -/
theorem resetInv : Obligations.ResetInv :=
  ⟨State.reset_memInv, State.reset_polyInv, State.reset_statusInv, State.reset_cacheInv⟩

/-! What a step keeps: the four invariants. -/

/-- No write of a CSR touches a memory, a polynomial register or the cache (R30). -/
theorem State.writeCsr_frame (s : State) (n : Nat) (v : BitVec 64) : s.writeCsr n v =
    { s.writeCsr n v with
      p := s.p, gen := s.gen, cmd := s.cmd, sym := s.sym, img := s.img, lum := s.lum, thr := s.thr, bit := s.bit,
      rct := s.rct } := by
  unfold State.writeCsr
  split
  case h_1 =>
    unfold State.writeCtrl
    dsimp only
    split <;> split <;> rfl
  all_goals rfl

/-- A write of another CSR than `CTRL` touches no CSR of the run (R30). -/
theorem State.writeCsr_frame_run (s : State) {n : Nat} (hn : n ≠ 1) (v : BitVec 64) : s.writeCsr n v =
    { s.writeCsr n v with
      cp := s.cp, ctrl := s.ctrl, status := s.status, err := s.err, epc := s.epc, einfo := s.einfo } := by
  unfold State.writeCsr
  split
  case h_1 => exact absurd rfl hn
  all_goals rfl

/-- Commands keep these invariants by `SafeWrite`; the host's moves change a memory inside its space or none of this. -/
theorem StepNext.keeps_data {s t : State} (h : StepNext s t) :
    (s.MemInv → t.MemInv) ∧ (s.PolyInv → t.PolyInv) ∧ (s.CacheInv → t.CacheInv) := by
  cases h with
  | reset => exact ⟨fun _ => State.reset_memInv, fun _ => State.reset_polyInv, fun _ => State.reset_cacheInv⟩
  | engine _ ht =>
    cases ht with
    | halted => exact ⟨id, id, id⟩
    | faulted c n => exact ⟨id, id, id⟩
    | completed _ ht => exact ⟨ht.mem, ht.poly, ht.cache⟩
  | host _ ht =>
    cases ht with
    | poll => exact ⟨id, id, id⟩
    | reset => exact ⟨fun _ => State.reset_memInv, fun _ => State.reset_polyInv, fun _ => State.reset_cacheInv⟩
    | csr n v =>
      rw [State.writeCsr_frame]
      exact ⟨id, id, id⟩
    | cell hmem => exact ⟨hmem, id, id⟩

/-- Settles O11: a command's stores fit in their memories, and so do the host's. -/
theorem stepKeepsMemInv : Obligations.StepKeepsMemInv := by
  unfold Obligations.StepKeepsMemInv
  intro s t hs hstep
  obtain ⟨q, hnext⟩ := step_next hstep
  obtain ⟨hmem, -, -⟩ := hnext.keeps_data
  exact hmem hs

/-- Settles O12: a command writes a polynomial register with a sequence that fits; the host writes none. -/
theorem stepKeepsPolyInv : Obligations.StepKeepsPolyInv := by
  unfold Obligations.StepKeepsPolyInv
  intro s t hs hstep
  obtain ⟨q, hnext⟩ := step_next hstep
  obtain ⟨-, hpoly, -⟩ := hnext.keeps_data
  exact hpoly hs

/-- Settles O14: a command grows the cache by generators alone, to 64 at most; the host never does. -/
theorem stepKeepsCacheInv : Obligations.StepKeepsCacheInv := by
  unfold Obligations.StepKeepsCacheInv
  intro s t hs hstep
  obtain ⟨q, hnext⟩ := step_next hstep
  obtain ⟨-, -, hcache⟩ := hnext.keeps_data
  exact hcache hs

/-! `STATUS` and the fault record (R32, R33, R34). -/

section
variable {s : State} (hs : s.StatusInv)
include hs

theorem State.StatusInv.status_of_busy (h : busyBit s.status = true) : s.status = 1#32 := by
  obtain ⟨h0 | h1 | h2 | h4, -⟩ := hs
  · exact absurd (h0 ▸ h) (by decide)
  · exact h1
  · exact absurd (h2 ▸ h) (by decide)
  · exact absurd (h4 ▸ h) (by decide)

/-- `STATUS` of an idle engine is zero once `DONE` and `FAULT` are cleared. -/
theorem State.StatusInv.statusClear_of_idle (h : busyBit s.status = false) : statusClear s.status = 0#32 := by
  obtain ⟨h0 | h1 | h2 | h4, -⟩ := hs
  · rw [h0]
    rfl
  · exact absurd (h1 ▸ h) (by decide)
  · rw [h2]
    rfl
  · rw [h4]
    rfl

theorem State.StatusInv.engineNext {t : State} (hbusy : busyBit s.status = true) (h : EngineNext s t) : t.StatusInv := by
  have hone := hs.status_of_busy hbusy
  obtain ⟨-, hrec, hctrl, hcp⟩ := hs
  have hrec := hrec (by rw [hone]; decide)
  cases h with
  | halted => exact ⟨.inr (.inr (.inl (by simp [hone, statusDone]))), fun _ => hrec, hctrl, hcp⟩
  | faulted c n =>
    have hfour : (s.faulted c n).status = 4#32 := by simp [hone, statusFault]
    exact ⟨.inr (.inr (.inr hfour)), fun hne => absurd hfour hne, hctrl, hcp⟩
  | @completed u hlt hu =>
    obtain ⟨hctrl', -⟩ := hu.fixed
    obtain ⟨hst, herr, hepc, heinfo⟩ := hu.record
    have hcp' : u.completed.cp.toNat = s.cp.toNat + 1 := by
      simp only [Config.cmdSize] at hlt
      rw [State.completed_cp, hu.cp]
      bv_omega
    refine ⟨.inr (.inl (hst.trans hone)), fun _ => ?_, ?_, by omega⟩
    · simpa [herr, hepc, heinfo] using hrec
    · simpa [hctrl'] using hctrl

theorem State.StatusInv.cleared (h : busyBit s.status = false) : s.cleared.StatusInv := by
  obtain ⟨-, -, hctrl, hcp⟩ := id hs
  exact ⟨.inl (hs.statusClear_of_idle h), fun _ => ⟨rfl, rfl, rfl⟩, hctrl, hcp⟩

theorem State.StatusInv.started (h : busyBit s.status = false) : s.started.StatusInv := by
  obtain ⟨-, -, hctrl, -⟩ := id hs
  refine ⟨.inr (.inl ?_), fun _ => ⟨rfl, rfl, rfl⟩, hctrl, Nat.zero_le _⟩
  simp [statusStart, hs.statusClear_of_idle h]

/-- A write of `CTRL` is up to three writes in order: `INV`, then `CLR`, then `START` (R32). -/
theorem State.StatusInv.writeCtrl (h : busyBit s.status = false) (v : Word) : (s.writeCtrl v).StatusInv := by
  obtain ⟨hst, hrec, -, hcp⟩ := hs
  have hkept : State.StatusInv { s with ctrl := ctrlKept v } :=
    ⟨hst, hrec, by simp [ctrlKept, BitVec.and_assoc], hcp⟩
  have hclr : busyBit (statusClear s.status) = false := by simpa [busyBit, statusClear] using h
  unfold State.writeCtrl
  dsimp only
  split
  case isTrue =>
    split
    · exact (hkept.cleared h).started hclr
    · exact hkept.started h
  case isFalse =>
    split
    · exact hkept.cleared h
    · exact hkept

end

/-- Settles O13: the engine runs from `STATUS` 1, the host acts on 0, 2 and 4, and of its moves `CTRL` alone bears on them. -/
theorem stepKeepsStatusInv : Obligations.StepKeepsStatusInv := by
  unfold Obligations.StepKeepsStatusInv
  intro s t hs hstep
  obtain ⟨q, hnext⟩ := step_next hstep
  cases hnext with
  | reset => exact State.reset_statusInv
  | engine hbusy ht => exact State.StatusInv.engineNext (s := { s with hostq := q }) hs hbusy ht
  | host hidle ht =>
    cases ht with
    | poll => exact hs
    | reset => exact State.reset_statusInv
    | csr n v =>
      by_cases hn : n = 1
      · subst hn
        exact State.StatusInv.writeCtrl (s := { s with hostq := q }) hs hidle _
      · rw [State.writeCsr_frame_run _ hn]
        exact hs
    | cell _ => exact hs

end Sys2Proof.Machine
end

section
/-! The fetch's faults (R28, R98 to R100), the state after reset (R48), and the CSR port (R30 to R32). -/

open Sys2Proof.Certificates

namespace Sys2Proof

/-! Decoding refuses what no row of the table allows (R98, R99). -/

theorem opcOf_toNat (w : Word) : (opcOf w).toNat = w.toNat % 256 := by
  rw [opcOf, field_toNat]
  simp

theorem formatZ_eq_ok {w : Word} {i j : Instr} (h : formatZ w i = .ok j) : i = j ∧ w.extractLsb' 8 24 = 0#24 := by
  unfold formatZ at h
  split at h
  case isTrue hz => cases h; exact ⟨rfl, hz⟩
  case isFalse => cases h

theorem formatI_eq_ok {w : Word} {i j : Instr} (h : formatI w i = .ok j) : i = j := by
  unfold formatI at h
  split at h
  · cases h; rfl
  · cases h

theorem formatR_eq_ok {ka kb kc kd : SlotKind} {w : Word} {i j : Instr} (h : formatR ka kb kc kd w i = .ok j) :
    i = j := by
  unfold formatR at h
  split at h
  · split at h
    · cases h; rfl
    · cases h
  · cases h

/-- R100: the opcodes outside the table. -/
theorem decode_unassigned {w : Word}
    (h : w.toNat % 256 ∈ [0x04, 0x05, 0x06, 0x07, 0x08, 0x09, 0x0A, 0x0B, 0x0C, 0x0D, 0x0E, 0x0F,
        0x16, 0x17, 0x18, 0x19, 0x1A, 0x1B, 0x1C, 0x1D, 0x1E, 0x1F, 0x2F, 0x37, 0x3A, 0x3B, 0x3C, 0x3D, 0x3E, 0x3F,
        0x44, 0x45, 0x46, 0x47, 0x4B, 0x4C, 0x4D, 0x4E, 0x4F, 0x52, 0x53, 0x54, 0x55, 0x56, 0x57,
        0x59, 0x5A, 0x5B, 0x5C, 0x5D, 0x5E, 0x5F] ∨ 0x60 ≤ w.toNat % 256) :
    decode w = .error .unassignedOpcode := by
  rw [← opcOf_toNat] at h
  unfold decode
  dsimp only
  split
  case h_45 => rfl
  all_goals
    rename_i hopc
    rw [hopc] at h
    exact absurd h (by decide)

theorem decode_eq_halt {w : Word} (h : decode w = .ok .halt) : w = 0#32 := by
  unfold decode at h
  dsimp only at h
  split at h
  case h_1 hopc =>
    obtain ⟨-, hz⟩ := formatZ_eq_ok h
    apply BitVec.eq_of_toNat_eq
    have hz := congrArg BitVec.toNat hz
    have hw := w.isLt
    rw [field_toNat] at hz
    rw [opcOf_toNat] at hopc
    simp at hz ⊢
    omega
  case h_2 => cases formatI_eq_ok h
  case h_45 => cases h
  case h_35 | h_36 | h_37 | h_38 | h_39 | h_40 | h_41 | h_42 =>
    obtain ⟨hi, -⟩ := formatZ_eq_ok h
    cases hi
  all_goals cases formatR_eq_ok h

end Sys2Proof

namespace Sys2Proof.Machine

theorem step_of_engineTurn {s : State} (h : s.engineTurn) : step s = engineStep s.polled := by
  obtain ⟨hbusy, hreset⟩ := h
  rcases step_cases s with ⟨-, rest, hq, -⟩ | ⟨-, rest, hq, hstep⟩ | ⟨-, -, hpoll, hstep⟩ | ⟨hidle, -⟩ | ⟨hidle, -⟩
  · exact absurd hq (hreset rest)
  · rw [hstep, State.polled, hq]
    rfl
  · have hkept : afterPoll s.hostq = s.hostq := by
      unfold afterPoll
      split
      case h_1 rest hq => exact absurd hq (hpoll rest)
      case h_2 => rfl
    rw [hstep, State.polled, hkept]
  · simp [hbusy] at hidle
  · simp [hbusy] at hidle

/-- Settles O6: the fetch takes its fault, and `decode` refuses the words of R99 and R100. -/
theorem fetchFaults : Obligations.FetchFaults := by
  unfold Obligations.FetchFaults
  refine ⟨fun s hturn hcp => ?_, fun s e hturn hcp hdec => ?_, fun w hopc => ⟨_, decode_unassigned hopc⟩,
    fun w => ⟨decode_eq_halt, fun hw => hw ▸ rfl⟩, .unassignedOpcode, rfl⟩
  · have hstep : step s = .next (s.polled.faulted .addr 0) := by
      rw [step_of_engineTurn hturn, engineStep, s.polled.fetch_overrun hcp]
      rfl
    exact ⟨_, hstep, rfl, rfl, rfl, rfl⟩
  · have hstep : step s = .next (s.polled.faulted .illegal (s.cmdWord s.cp.toNat).toNat) := by
      rw [step_of_engineTurn hturn, engineStep, s.polled.fetch_illegal e hcp hdec]
      rfl
    exact ⟨_, hstep, rfl, rfl, by simp, rfl⟩

/-! The CSRs (R30, R31, R32). -/

/-- Settles O9. -/
theorem resetValues : Obligations.ResetValues := by
  unfold Obligations.ResetValues
  refine ⟨by decide, by decide, by decide, rfl, rfl, rfl, rfl, ?_⟩
  exact ⟨fun _ => rfl, fun _ => rfl, fun _ => rfl, fun _ => rfl, fun _ => rfl, fun _ => rfl, fun _ => rfl⟩

/-- Settles O19: `ID` reads the constant whatever the state. -/
theorem idConstant : Obligations.IdConstant := by
  unfold Obligations.IdConstant
  intro s n v
  have hid (t : State) : t.readCsr 0 = 0x00014306#64 := rfl
  rw [hid, hid]
  decide

/-- A write of `CTRL` by its `START` and `CLR` bits. -/
theorem State.writeCtrl_of_bits (s : State) {v : Word} {start clr : Bool} (h0 : v.getLsbD 0 = start)
    (h1 : v.getLsbD 1 = clr) : s.writeCtrl v =
      let kept : State := { s with ctrl := ctrlKept v }
      let done := if clr then kept.cleared else kept
      if start then done.started else done := by
  subst h0 h1
  rfl

theorem State.writeCtrl_ctrl (s : State) (v : Word) : (s.writeCtrl v).ctrl = ctrlKept v := by
  rw [s.writeCtrl_of_bits rfl rfl]
  cases v.getLsbD 0 <;> cases v.getLsbD 1 <;> rfl

/-- Settles O18: each clause is the case of its two bits. -/
theorem ctrlWrite : Obligations.CtrlWrite := by
  unfold Obligations.CtrlWrite
  intro s v
  refine ⟨congrArg wide (s.writeCtrl_ctrl v), s.writeCtrl_of_bits, fun h0 h1 => ?_, fun h0 h1 => ?_⟩
  · have hclr : s.writeCtrl v = State.cleared { s with ctrl := ctrlKept v } := s.writeCtrl_of_bits h0 h1
    rw [hclr]
    refine ⟨?_, ?_, ?_, rfl⟩
    · simp [doneBit, statusClear]
    · simp [faultBit, statusClear]
    · simp [busyBit, statusClear]
  · have hclr : s.writeCtrl (v &&& 0xFFFFFFFE#32) = State.cleared { s with ctrl := ctrlKept (v &&& 0xFFFFFFFE#32) } :=
      s.writeCtrl_of_bits (start := false) (clr := true) (by simp) (by simp [← h1])
    have hstart (t : State) : t.writeCtrl (v &&& 0xFFFFFFFD#32) = State.started { t with ctrl := ctrlKept v } := by
      have hkept : ctrlKept (v &&& 0xFFFFFFFD#32) = ctrlKept v := by simp [ctrlKept, BitVec.and_assoc]
      rw [← hkept]
      exact t.writeCtrl_of_bits (start := true) (clr := false) (by simp [← h0]) (by simp)
    rw [hclr, hstart, s.writeCtrl_of_bits h0 h1]
    rfl

theorem State.readCsr_writeCsr_ne (s : State) {n k : Nat} (hn : n ≠ 1) (hk : k ≠ n) (v : BitVec 64) :
    (s.writeCsr n v).readCsr k = s.readCsr k := by
  unfold State.writeCsr
  split
  case h_1 => exact absurd rfl hn
  case h_22 => rfl
  all_goals
    unfold State.readCsr
    dsimp only
    split <;> try rfl
    exact absurd rfl hk

theorem State.writeCsr_of_readOnly (s : State) {n : Nat} (v : BitVec 64)
    (h : n ∈ [0x00, 0x02, 0x03, 0x04, 0x05, 0x06, 0x07] ∨ (0x11 ≤ n ∧ n < 0x20) ∨ 0x2B ≤ n) : s.writeCsr n v = s := by
  unfold State.writeCsr
  dsimp only
  split
  case h_22 => rfl
  all_goals
    exact absurd h (by decide)

theorem State.readCsr_of_reserved (s : State) {n : Nat}
    (h : n = 0x07 ∨ (0x11 ≤ n ∧ n < 0x20) ∨ (0x2B ≤ n ∧ n < 0x30) ∨ 0x39 ≤ n) : s.readCsr n = 0#64 := by
  unfold State.readCsr
  split
  case h_37 => rfl
  all_goals
    exact absurd h (by decide)

/-- Settles O20. -/
theorem csrPort : Obligations.CsrPort := by
  unfold Obligations.CsrPort
  intro s n v
  refine ⟨fun h => ?_, fun h => ?_, fun hn k hk => s.readCsr_writeCsr_ne hn hk v, s.writeCsr_of_readOnly v,
    s.readCsr_of_reserved⟩
  · simp only [List.mem_cons, List.not_mem_nil, or_false] at h
    rcases h with rfl | rfl | rfl | rfl | rfl | rfl | rfl | rfl | rfl <;> rfl
  · simp only [List.mem_cons, List.not_mem_nil, or_false] at h
    rcases h with rfl | rfl | rfl | rfl | rfl | rfl | rfl | rfl | rfl | rfl | rfl <;> rfl

end Sys2Proof.Machine
end

section
/-! The field tables (R37, R38) and the product (R133, R139). Both products double with their second factor, and every
non-zero element is a power of alpha, so they agree by induction on the power. -/

open Sys2Proof.Certificates

namespace Sys2Proof.Machine

/-- Multiplication by alpha: doubling, reduced by 0x43 (R37). -/
def xtime (v : GF) : GF := if v.getLsbD 5 then v <<< 1 ^^^ 3#6 else v <<< 1

theorem gexp_succ {i : Nat} (h : i < 63) : gexp (i + 1) = xtime (gexp i) := by
  revert i
  decide

theorem glog_gexp {i : Nat} (h : i < 63) : glog (gexp i) = some i := by
  revert i
  decide

theorem glog_of_ne_zero {v : GF} (h : v ≠ 0) : ∃ l, l < 63 ∧ glog v = some l ∧ gexp l = v := by
  refine ⟨(glog v).getD 0, ?_⟩
  revert v
  decide

/-- The powers of alpha go round after 63 (R136). -/
theorem gexp_mod_succ (n : Nat) : gexp ((n + 1) % 63) = xtime (gexp (n % 63)) := by
  have hlt : n % 63 < 63 := Nat.mod_lt n (by decide)
  rw [← gexp_succ hlt]
  by_cases hlast : n % 63 = 62
  · rw [hlast, show (n + 1) % 63 = 0 by omega]
    rfl
  · rw [show (n + 1) % 63 = n % 63 + 1 by omega]

/-! The product through the tables. -/

theorem zero_gmul (y : GF) : gmul 0 y = 0 := rfl

theorem gmul_gexp {i j : Nat} (hi : i < 63) (hj : j < 63) : gmul (gexp i) (gexp j) = gexp ((i + j) % 63) := by
  simp [gmul, glog_gexp hi, glog_gexp hj]

/-- Both tables turn doubling the second factor into doubling the product. -/
theorem gmul_xtime (x : GF) {j : Nat} (hj : j < 63) : gmul x (xtime (gexp j)) = xtime (gmul x (gexp j)) := by
  by_cases hx : x = 0
  · subst hx
    rw [zero_gmul, zero_gmul]
    decide
  · obtain ⟨i, hi, -, rfl⟩ := glog_of_ne_zero hx
    have hnext : xtime (gexp j) = gexp ((j + 1) % 63) := by rw [gexp_mod_succ, Nat.mod_eq_of_lt hj]
    rw [hnext, gmul_gexp hi (Nat.mod_lt _ (by decide)), gmul_gexp hi hj, ← gexp_mod_succ]
    congr 1
    omega

/-! The carry-less product is linear in its second factor. -/

/-- `v` where the bit is set. -/
def sel (b : Bool) {n : Nat} (v : BitVec n) : BitVec n := if b then v else 0

theorem xor_sel (b : Bool) {n : Nat} (r v : BitVec n) : (if b then r ^^^ v else r) = r ^^^ sel b v := by
  cases b <;> simp [sel]

theorem sel_xor (b : Bool) {n : Nat} (v w : BitVec n) : sel b (v ^^^ w) = sel b v ^^^ sel b w := by
  cases b <;> simp [sel]

theorem sel_bne (a b : Bool) {n : Nat} (v : BitVec n) : sel (a != b) v = sel a v ^^^ sel b v := by
  cases a <;> cases b <;> simp [sel]

/-- The reduced value of an 11-bit product (R139). -/
def reduced (r : BitVec 11) : GF := (reduce43 r).setWidth 6

theorem reduce43_xor (a b : BitVec 11) : reduce43 (a ^^^ b) = reduce43 a ^^^ reduce43 b := by
  unfold reduce43
  generalize [10, 9, 8, 7, 6] = bits
  simp only [xor_sel]
  induction bits generalizing a b with
  | nil => rfl
  | cons k bits ih =>
    rw [List.foldl_cons, List.foldl_cons, List.foldl_cons, ← ih, BitVec.getLsbD_xor, sel_bne]
    congr 1
    ac_rfl

theorem reduced_xor (a b : BitVec 11) : reduced (a ^^^ b) = reduced a ^^^ reduced b := by
  rw [reduced, reduce43_xor, BitVec.setWidth_xor, reduced, reduced]

theorem reduced_sel (c : Bool) (v : BitVec 11) : reduced (sel c v) = sel c (reduced v) := by
  cases c
  · exact (by decide : reduced 0 = 0)
  · rfl

theorem xtime_xor (v w : GF) : xtime (v ^^^ w) = xtime v ^^^ xtime w := by
  simp only [xtime, xor_sel, BitVec.getLsbD_xor, sel_bne, BitVec.shiftLeft_xor_distrib]
  ac_rfl

theorem xtime_sel (c : Bool) (v : GF) : xtime (sel c v) = sel c (xtime v) := by
  cases c
  · exact (by decide : xtime 0 = 0)
  · rfl

/-- A shift, reduced, is so many doublings. -/
theorem reduced_shift : ∀ x : GF, ∀ i < 6, reduced (x.setWidth 11 <<< i) = xtime^[i] x := by decide

/-- The product is the sum of the doublings of `x` at the bits of `y`. -/
theorem reduced_carryless (x y : GF) : reduced (carryless (x.setWidth 11) (y.setWidth 11)) =
    sel (y.getLsbD 0) x ^^^ sel (y.getLsbD 1) (xtime^[1] x) ^^^ sel (y.getLsbD 2) (xtime^[2] x) ^^^
      sel (y.getLsbD 3) (xtime^[3] x) ^^^ sel (y.getLsbD 4) (xtime^[4] x) ^^^ sel (y.getLsbD 5) (xtime^[5] x) := by
  have hrange : List.range 6 = [0, 1, 2, 3, 4, 5] := rfl
  have hbit (i : Nat) (hi : i < 6) : (y.setWidth 11).getLsbD i = y.getLsbD i := by
    rw [BitVec.getLsbD_setWidth, decide_eq_true (by omega), Bool.true_and]
  have hzero : reduced 0 = 0#6 := by decide
  simp only [carryless, xor_sel, hrange, List.foldl_cons, List.foldl_nil, reduced_xor, reduced_sel, hzero]
  rw [hbit 0 (by decide), hbit 1 (by decide), hbit 2 (by decide), hbit 3 (by decide), hbit 4 (by decide),
    hbit 5 (by decide), reduced_shift x 0 (by decide), reduced_shift x 1 (by decide), reduced_shift x 2 (by decide),
    reduced_shift x 3 (by decide), reduced_shift x 4 (by decide), reduced_shift x 5 (by decide), BitVec.zero_xor]
  rfl

/-- The sixth doubling is the reduction by 0x43: alpha^6 is alpha + 1 (R130). -/
theorem xtime_six : ∀ x : GF, xtime^[6] x = xtime x ^^^ x := by decide

theorem xtime_bits : ∀ y : GF, (xtime y).getLsbD 0 = y.getLsbD 5 ∧ (xtime y).getLsbD 1 = (y.getLsbD 0 != y.getLsbD 5) ∧
    (xtime y).getLsbD 2 = y.getLsbD 1 ∧ (xtime y).getLsbD 3 = y.getLsbD 2 ∧ (xtime y).getLsbD 4 = y.getLsbD 3 ∧
    (xtime y).getLsbD 5 = y.getLsbD 4 := by decide

theorem reduced_carryless_xtime (x y : GF) : reduced (carryless (x.setWidth 11) ((xtime y).setWidth 11)) =
    xtime (reduced (carryless (x.setWidth 11) (y.setWidth 11))) := by
  obtain ⟨h0, h1, h2, h3, h4, h5⟩ := xtime_bits y
  have hiter (i : Nat) : xtime (xtime^[i] x) = xtime^[i + 1] x := (Function.iterate_succ_apply' xtime i x).symm
  simp only [reduced_carryless, xtime_xor, xtime_sel, h0, h1, h2, h3, h4, h5, sel_bne, hiter, Nat.reduceAdd, xtime_six,
    sel_xor, Function.iterate_one]
  ac_rfl

theorem gmul_gexp_eq_reduced (x : GF) {j : Nat} (hj : j < 63) :
    gmul x (gexp j) = reduced (carryless (x.setWidth 11) ((gexp j).setWidth 11)) := by
  induction j with
  | zero =>
    revert x
    decide
  | succ j ih =>
    have hj' : j < 63 := Nat.lt_of_succ_lt hj
    rw [gexp_succ hj', gmul_xtime x hj', reduced_carryless_xtime, ih hj']

/-- R139: the product through the tables is the carry-less product reduced. -/
theorem gmul_eq_reduced (x y : GF) : gmul x y = reduced (carryless (x.setWidth 11) (y.setWidth 11)) := by
  by_cases hy : y = 0
  · subst hy
    revert x
    decide
  · obtain ⟨j, hj, -, rfl⟩ := glog_of_ne_zero hy
    exact gmul_gexp_eq_reduced x hj

theorem gexp_succ_toNat : ∀ i, i < 63 → (gexp (i + 1)).toNat =
    if (gexp i).toNat * 2 < 64 then (gexp i).toNat * 2 else (gexp i).toNat * 2 ^^^ 0x43 := by decide

/-- Settles O53. -/
theorem fieldTables : Obligations.FieldTables := by
  unfold Obligations.FieldTables
  exact ⟨rfl, gexp_succ_toNat, fun _ => glog_gexp, fun _ => glog_of_ne_zero, gmul_eq_reduced⟩

end Sys2Proof.Machine
end

section
/-! Every run ends (R76, R121, R433): a step that leaves the engine busy moves `CP` one on inside `CMD`. -/

namespace Sys2Proof.Machine

/-- The engine's step leaves it idle, or has completed a command inside `CMD` and moved `CP` on. -/
theorem EngineNext.idle_or_advanced {s t : State} (h : EngineNext s t) :
    busyBit t.status = false ∨
      (s.cp.toNat < 1024 ∧ t.cp.toNat = s.cp.toNat + 1 ∧ t.status = s.status ∧ t.hostq = s.hostq) := by
  cases h with
  | halted => exact .inl (by simp [busyBit, statusDone])
  | faulted c n => exact .inl (by simp [busyBit, statusFault])
  | @completed u hcp hu =>
    obtain ⟨hstatus, -⟩ := hu.record
    obtain ⟨-, -, -, -, hhost, -⟩ := hu.fixed
    have hcp : s.cp.toNat < 1024 := hcp
    refine .inr ⟨hcp, ?_, hstatus, hhost⟩
    rw [State.completed_cp, hu.cp]
    bv_omega

/-- With no host move to come, the step of a busy engine is the engine's. -/
theorem step_of_busy {s : State} (hbusy : busyBit s.status = true) (hhost : s.hostq = []) :
    ∃ t, step s = .next t ∧ EngineNext s t := by
  have hkept : afterPoll s.hostq = s.hostq := by
    rw [hhost]
    rfl
  have hturn : s.engineTurn := ⟨hbusy, by simp [hhost]⟩
  rw [step_of_engineTurn hturn, State.polled, hkept]
  exact engineStep_next s

theorem run_succ_of_step {M : Host.Core} {s t : M.State} (h : M.step s = .next t) (n : Nat) :
    M.run (n + 1) s = M.run n t := by
  rw [Host.Core.run, h]

/-- The run ends, by induction on the words left. -/
theorem run_ends (left : Nat) (s : State) (hleft : left = 1024 - s.cp.toNat) (hbusy : busyBit s.status = true)
    (hhost : s.hostq = []) :
    ∃ n t, n ≤ 1 + left ∧ Host.Core.run core n s = .next t ∧ busyBit t.status = false := by
  induction left generalizing s with
  | zero =>
    obtain ⟨t, hstep, hnext⟩ := step_of_busy hbusy hhost
    rcases hnext.idle_or_advanced with hidle | ⟨hcp, -⟩
    · exact ⟨1, t, le_rfl, run_succ_of_step (M := core) hstep 0, hidle⟩
    · omega
  | succ left ih =>
    obtain ⟨t, hstep, hnext⟩ := step_of_busy hbusy hhost
    rcases hnext.idle_or_advanced with hidle | ⟨-, hcp, hstatus, hkept⟩
    · exact ⟨1, t, by omega, run_succ_of_step (M := core) hstep 0, hidle⟩
    · obtain ⟨n, u, hn, hrun, hidle⟩ := ih t (by omega) (hstatus ▸ hbusy) (hkept.trans hhost)
      exact ⟨n + 1, u, by omega, (run_succ_of_step (M := core) hstep n).trans hrun, hidle⟩

/-- Settles O15, by `run_ends` with as many words left as `CMD` has from `CP` on. -/
theorem runsEnd : Obligations.RunsEnd := by
  unfold Obligations.RunsEnd
  exact fun s => run_ends _ s rfl

end Sys2Proof.Machine
end

section
/-! The frame of the commands that store to `SYM` (R64): each is its checks in order, then one store of no more bytes
than its range has, beside the scalar register, the CSRs and the cache its rule names. -/

open Sys2Proof.Certificates

namespace Sys2Proof.Machine

/-! How many bytes are stored (R209, R245). -/

theorem roots_length_eq_deg {sigma : Poly} {xl : List GF} (h : roots sigma = .ok xl) : xl.length = deg sigma := by
  unfold roots at h
  dsimp only at h
  split at h
  case isTrue hdeg => cases h; exact hdeg
  case isFalse => cases h

/-- The payload length the content decoder answers is the second cell of the code word, which is there. -/
theorem cdecCheck_len {data out : List Byte} {len parity cnt : Nat} (h : cdecCheck data = .ok (len, parity, cnt, out)) :
    2 ≤ data.length ∧ len = (data.getD 1 0).toNat := by
  unfold cdecCheck at h
  dsimp only at h
  split at h
  · cases h
  · split at h
    · cases h
    case isFalse hlen =>
      refine ⟨by omega, ?_⟩
      split at h
      · cases h; rfl
      · split at h
        · cases h
        · split at h
          · cases h
          · split at h
            · cases h
            · cases h; rfl

/-! The frame of a store. -/

theorem sameIntCsr_refl (s : State) : sameIntCsr s s := ⟨rfl, rfl, rfl, rfl, rfl, rfl, rfl, rfl⟩

theorem sameImages_refl (s : State) : sameImages s s :=
  ⟨fun _ => rfl, fun _ => rfl, fun _ => rfl, fun _ => rfl, fun _ => rfl⟩

/-- What the storing command `i` leaves as it was on its way from `s` to `t`. -/
structure StoreWrite (i : Instr) (s t : State) : Prop where
  bytes : ∀ a n, symDest s i = some (a, n) → ∀ b, b < a ∨ a + n ≤ b → t.symByte b = s.symByte b
  poly : t.p = s.p
  images : sameImages s t
  num : sameNumCsr s t
  rest : storeFrame s t i

namespace StoreWrite

variable {i : Instr} {s : State}

/-- A fault leaves everything but the record (R390). -/
theorem faulted (c : ErrCode) (n : Nat) : StoreWrite i s (s.faulted c n) where
  bytes := fun _ _ _ _ _ => rfl
  poly := rfl
  images := sameImages_refl s
  num := ⟨rfl, rfl, rfl⟩
  rest := by
    unfold storeFrame
    split <;> simp [sameIntCsr, State.getX]

/-- A store into the range the command computes, beside a scalar register, result CSRs, `CP` and the cache. -/
theorem store {a n : Nat} {vs : List Byte} {x : Vector Scalar 16} {cp cs cv pr pn nc : Word} {gen : List Poly}
    (hdest : symDest s i = some (a, n)) (hlen : vs.length ≤ n)
    (hframe : storeFrame s { s.storeSym a vs with
      x := x, cp := cp, codeSize := cs, codeVer := cv, par := pr, plen := pn, ncorr := nc, gen := gen } i) :
    StoreWrite i s { s.storeSym a vs with
      x := x, cp := cp, codeSize := cs, codeVer := cv, par := pr, plen := pn, ncorr := nc, gen := gen } where
  bytes := fun a' n' hdest' b hb => by
    cases hdest.symm.trans hdest'
    exact s.symByte_storeSym_outside a vs b (by omega)
  poly := rfl
  images := sameImages_refl s
  num := ⟨rfl, rfl, rfl⟩
  rest := hframe

end StoreWrite

/-- The result of the storing command `i` is a next state, and keeps its frame. -/
def StoreEnds (i : Instr) (s : State) (r : Result) : Prop := ∃ t, r = .next t ∧ StoreWrite i s t

namespace StoreEnds

variable {i : Instr} {s : State}

theorem raise (c : ErrCode) (n : Nat) : StoreEnds i s (s.raise c n) := ⟨_, rfl, .faulted c n⟩

theorem complete {t : State} (h : StoreWrite i s t.completed) : StoreEnds i s t.complete := ⟨_, rfl, h⟩

/-- A check that raises a fault comes before the rest of the command. -/
theorem guard {p : Prop} [Decidable p] {c : ErrCode} {n : Nat} {r : Result} (h : ¬ p → StoreEnds i s r) :
    StoreEnds i s (if p then s.raise c n else r) := by
  split
  · exact raise c n
  · exact h ‹_›

end StoreEnds

/-! The commands. -/

variable (s : State)

theorem execSts_storeEnds (xs1 xs2 : XReg) : StoreEnds (.sts xs1 xs2) s (execSts xs1 xs2 s) :=
  .guard fun _ => .guard fun _ => .complete (.store rfl le_rfl ⟨rfl, sameIntCsr_refl s, rfl⟩)

theorem execPst_storeEnds (ps : PReg) (xs1 : XReg) : StoreEnds (.pst ps xs1) s (execPst ps xs1 s) :=
  .guard fun _ => .complete (.store rfl (by simp) ⟨rfl, sameIntCsr_refl s, rfl⟩)

theorem execRsenc_storeEnds (xs0 xs1 xs2 xs3 : XReg) :
    StoreEnds (.rsenc xs0 xs1 xs2 xs3) s (execRsenc xs0 xs1 xs2 xs3 s) := by
  refine .guard fun _ => .guard fun _ => .guard fun _ => .guard fun _ => .guard fun _ => ?_
  split
  · exact .raise ..
  · exact .complete (.store rfl (by simp [rsenc_length]) ⟨rfl, sameIntCsr_refl s⟩)

theorem execRsroot_storeEnds (xd : XReg) (ps1 : PReg) (xs2 : XReg) :
    StoreEnds (.rsroot xd ps1 xs2) s (execRsroot xd ps1 xs2 s) := by
  unfold execRsroot
  dsimp only
  split
  · exact .raise ..
  case h_2 xl hroots =>
    refine .guard fun _ => .complete (.store rfl ?_ ⟨fun r hr => s.getX_setX_ne xd r _ hr, sameIntCsr_refl s, rfl⟩)
    rw [List.length_map, roots_length_eq_deg hroots]

theorem execRsmag_storeEnds (xs0 : XReg) (ps1 : PReg) (xs2 xs3 : XReg) :
    StoreEnds (.rsmag xs0 ps1 xs2 xs3) s (execRsmag xs0 ps1 xs2 xs3 s) := by
  refine .guard fun _ => .guard fun _ => .guard fun _ => ?_
  split
  · exact .guard fun _ => .raise ..
  · exact .guard fun _ => .complete (.store rfl (by simp [mags]) ⟨rfl, sameIntCsr_refl s, rfl⟩)

theorem execRsdec_storeEnds (xs0 xs1 xs2 xs3 : XReg) :
    StoreEnds (.rsdec xs0 xs1 xs2 xs3) s (execRsdec xs0 xs1 xs2 xs3 s) := by
  refine .guard fun _ => .guard fun _ => .guard fun _ => .guard fun _ => ?_
  split
  · exact .raise ..
  · split
    · exact .raise ..
    case h_2 out cnt hdec =>
      obtain ⟨hlen, -⟩ := rsdec_length hdec
      exact .complete (.store rfl (by simpa using hlen.le) ⟨rfl, sameIntCsr_refl s, rfl⟩)

theorem execCenc_storeEnds (xs0 xs1 xs2 : XReg) : StoreEnds (.cenc xs0 xs1 xs2) s (execCenc xs0 xs1 xs2 s) := by
  refine .guard fun _ => .guard fun _ => .guard fun hms => .guard fun _ => .guard fun _ => ?_
  split
  · exact .raise ..
  · have hpar := finalParity_le (Nat.le_of_not_lt hms)
    refine .complete (.store rfl ?_ ⟨rfl, sameIntCsr_refl s⟩)
    rw [List.length_map, rsenc_length, codeData_length, pow_two]
    · omega
    · rw [State.symBytes_length]
      omega

theorem execCdec_storeEnds (xs0 xs1 xs2 : XReg) : StoreEnds (.cdec xs0 xs1 xs2) s (execCdec xs0 xs1 xs2 s) := by
  refine .guard fun _ => .guard fun _ => .guard fun _ => ?_
  split
  · exact .raise ..
  case h_2 len parity cnt out hdec =>
    obtain ⟨htwo, hlen⟩ := cdecCheck_len hdec
    have hcell : (s.symBytes (s.natX xs1) (s.natX xs2)).getD 1 0 = s.symByte (s.natX xs1 + 1) := by
      rw [List.getD_eq_getElem _ _ htwo, s.symBytes_getElem]
    rw [hcell] at hlen
    refine .guard fun _ => .guard fun _ => .complete (.store rfl ?_ ⟨rfl, sameIntCsr_refl s, rfl⟩)
    rw [List.length_map, ← hlen]
    exact List.length_take_le ..

theorem execExtract_storeEnds (xs0 : XReg) : StoreEnds (.extract xs0) s (execExtract xs0 s) := by
  refine .guard fun _ => ?_
  dsimp only
  split
  · exact .raise ..
  case h_2 sc cells hcells =>
    have hdest : symDest s (.extract xs0) = some (s.natX xs0, cells ^ 2) := by simp only [symDest, hcells]
    refine .guard fun _ => .complete (.store hdest ?_ ⟨rfl, sameIntCsr_refl s, rfl⟩)
    rw [List.length_map, cellSymbols_length, pow_two]

variable {s : State}

theorem exec_storeEnds {i : Instr} {a n : Nat} (h : symDest s i = some (a, n)) : StoreEnds i s (exec i s) := by
  cases i with
  | sts xs1 xs2 => exact execSts_storeEnds s xs1 xs2
  | pst ps xs1 => exact execPst_storeEnds s ps xs1
  | rsenc xs0 xs1 xs2 xs3 => exact execRsenc_storeEnds s xs0 xs1 xs2 xs3
  | rsroot xd ps1 xs2 => exact execRsroot_storeEnds s xd ps1 xs2
  | rsmag xs0 ps1 xs2 xs3 => exact execRsmag_storeEnds s xs0 ps1 xs2 xs3
  | rsdec xs0 xs1 xs2 xs3 => exact execRsdec_storeEnds s xs0 xs1 xs2 xs3
  | cenc xs0 xs1 xs2 => exact execCenc_storeEnds s xs0 xs1 xs2
  | cdec xs0 xs1 xs2 => exact execCdec_storeEnds s xs0 xs1 xs2
  | extract xs0 => exact execExtract_storeEnds s xs0
  | _ => cases h

/-- The frame and the end every command but `HALT` has (O8), of the state it leads to. -/
theorem exec_fixed_endsAs {i : Instr} {t : State} (hi : i ≠ .halt) (h : exec i s = .next t) :
    sameFixed s t ∧ endsAs s t := by
  obtain ⟨u, hex, hfixed, -, ⟨hhalt, -⟩ | ⟨-, hend⟩⟩ := commandEnds i s
  · exact absurd hhalt hi
  · cases h.symm.trans hex
    exact ⟨hfixed, hend⟩

/-- Settles O24: what the store leaves is `exec_storeEnds`, what every command leaves is `commandEnds` (O8). -/
theorem storeFrame : Obligations.StoreFrame := by
  unfold Obligations.StoreFrame
  intro i s t a n hdest hex
  have hi : i ≠ .halt := by
    rintro rfl
    cases hdest
  obtain ⟨hfixed, hend⟩ := exec_fixed_endsAs hi hex
  obtain ⟨u, hu, hwrite⟩ := exec_storeEnds hdest
  cases hex.symm.trans hu
  exact ⟨hwrite.bytes a n hdest, hwrite.poly, hfixed, hwrite.images, hwrite.num, hwrite.rest, hend⟩

end Sys2Proof.Machine
end

section
/-! The words of the commands (R91 to R99, R103): the fields format R allows, as a mask; then decoding and encoding against
each other and against the opcode table. -/

open Sys2Proof.Certificates

namespace Sys2Proof
open Laws

/-! A slot (R94). It is legal exactly when it is zero under the mask of its kind. -/

/-- The bits of a slot of the kind that must be zero (R94). -/
def slotMask : SlotKind → BitVec 4
  | .x => 0
  | .p => 8
  | .unused => 15

/-- The slot made from the register that `b` names as a slot of the kind (R94). -/
def slotWord (k : SlotKind) (b : BitVec 4) : BitVec 4 :=
  match k with
  | .x => xslot (xregOf b)
  | .p => pslot (pregOf b)
  | .unused => 0

@[simp] theorem xslot_and_slotMask (r : XReg) : xslot r &&& slotMask .x = 0 := xslot_and r
@[simp] theorem pslot_and_slotMask (r : PReg) : pslot r &&& slotMask .p = 0 := pslot_and r

theorem slot_ok_iff (k : SlotKind) (b : BitVec 4) :
    unusedOk k b = true ∧ polyOk k b = true ↔ b &&& slotMask k = 0 := by
  cases k <;> revert b <;> decide

theorem slotWord_eq {k : SlotKind} {b : BitVec 4} (h : b &&& slotMask k = 0) : slotWord k b = b := by
  obtain ⟨hunused, hpoly⟩ := (slot_ok_iff k b).2 h
  cases k with
  | x => exact xslot_xregOf b
  | p => exact pslot_pregOf b hpoly
  | unused => exact (of_decide_eq_true hunused).symm

/-! The formats: which words they accept (R92, R93, R94). -/

/-- The fields above the opcode are legal in a row whose slots are of the kinds `ka kb kc kd` (R94). -/
structure LegalR (ka kb kc kd : SlotKind) (w : Word) : Prop where
  zero : zeroField w = 0#8
  a : slotA w &&& slotMask ka = 0
  b : slotB w &&& slotMask kb = 0
  c : slotC w &&& slotMask kc = 0
  d : slotD w &&& slotMask kd = 0

section
variable {ka kb kc kd : SlotKind} {w : Word} {i j : Instr}

theorem legalR_iff_ok : LegalR ka kb kc kd w ↔ zeroField w = 0#8 ∧
    (unusedOk ka (slotA w) = true ∧ polyOk ka (slotA w) = true) ∧
    (unusedOk kb (slotB w) = true ∧ polyOk kb (slotB w) = true) ∧
    (unusedOk kc (slotC w) = true ∧ polyOk kc (slotC w) = true) ∧
    (unusedOk kd (slotD w) = true ∧ polyOk kd (slotD w) = true) := by
  simp only [slot_ok_iff]
  exact ⟨fun ⟨hz, ha, hb, hc, hd⟩ => ⟨hz, ha, hb, hc, hd⟩, fun ⟨hz, ha, hb, hc, hd⟩ => ⟨hz, ha, hb, hc, hd⟩⟩

theorem formatR_eq_ok_iff : formatR ka kb kc kd w i = .ok j ↔ i = j ∧ LegalR ka kb kc kd w := by
  rw [legalR_iff_ok, formatR]
  split
  case isTrue hunused =>
    split
    case isTrue hpoly => simp_all
    case isFalse hpoly => simp_all
  case isFalse hunused => simp_all

/-- Format Z is format R without a used slot. -/
theorem formatZ_eq_ok_iff : formatZ w i = .ok j ↔ i = j ∧ LegalR .unused .unused .unused .unused w := by
  have hfields : w.extractLsb' 8 24 = 0#24 ↔
      zeroField w = 0#8 ∧ slotA w = 0#4 ∧ slotB w = 0#4 ∧ slotC w = 0#4 ∧ slotD w = 0#4 := by
    simp only [zeroField, slotA, slotB, slotC, slotD, ← BitVec.toNat_inj, field_toNat, BitVec.toNat_ofNat]
    omega
  rw [legalR_iff_ok, formatZ]
  split
  case isTrue hz => simp [hfields.1 hz, unusedOk, polyOk]
  case isFalse hz => simpa [unusedOk, polyOk] using fun _ => hfields.not.1 hz

theorem formatI_eq_ok_iff : formatI w i = .ok j ↔ i = j ∧ slotB w = 0#4 := by
  unfold formatI
  split
  case isTrue hb => simp [hb]
  case isFalse hb => simp [hb]

/-- A legal word of format R is made of its opcode and of the registers its slots name. -/
theorem LegalR.packR_slotWord {n : Nat} (h : LegalR ka kb kc kd w) (hopc : (opcOf w).toNat = n) :
    packR (BitVec.ofNat 8 n) (slotWord ka (slotA w)) (slotWord kb (slotB w)) (slotWord kc (slotC w))
      (slotWord kd (slotD w)) = w := by
  rw [slotWord_eq h.a, slotWord_eq h.b, slotWord_eq h.c, slotWord_eq h.d, ← hopc, BitVec.ofNat_toNat, BitVec.setWidth_eq]
  exact packR_fields w h.zero

theorem legalR_packR {opc : BitVec 8} {a b c d : BitVec 4} (ha : a &&& slotMask ka = 0) (hb : b &&& slotMask kb = 0)
    (hc : c &&& slotMask kc = 0) (hd : d &&& slotMask kd = 0) : LegalR ka kb kc kd (packR opc a b c d) where
  zero := zeroField_packR ..
  a := by simpa
  b := by simpa
  c := by simpa
  d := by simpa

end

/-! The fields of a masked word. -/

section
variable (w v : Word) (ma mb mc md : BitVec 4)

@[simp] theorem opcOf_and : opcOf (w &&& v) = opcOf w &&& opcOf v := BitVec.extractLsb'_and
@[simp] theorem slotA_and : slotA (w &&& v) = slotA w &&& slotA v := BitVec.extractLsb'_and
@[simp] theorem slotB_and : slotB (w &&& v) = slotB w &&& slotB v := BitVec.extractLsb'_and
@[simp] theorem slotC_and : slotC (w &&& v) = slotC w &&& slotC v := BitVec.extractLsb'_and
@[simp] theorem slotD_and : slotD (w &&& v) = slotD w &&& slotD v := BitVec.extractLsb'_and
@[simp] theorem zeroField_and : zeroField (w &&& v) = zeroField w &&& zeroField v := BitVec.extractLsb'_and

theorem maskR_toNat : (maskR ma mb mc md).toNat =
    255 + 256 * ma.toNat + 4096 * mb.toNat + 65536 * mc.toNat + 1048576 * md.toNat + 4278190080 := by
  unfold maskR
  repeat rw [toNat_append_add]
  simp; omega

@[simp] theorem slotA_maskR : slotA (maskR ma mb mc md) = ma := by
  apply BitVec.eq_of_toNat_eq; rw [slotA, field_toNat, maskR_toNat]; omega
@[simp] theorem slotB_maskR : slotB (maskR ma mb mc md) = mb := by
  apply BitVec.eq_of_toNat_eq; rw [slotB, field_toNat, maskR_toNat]; omega
@[simp] theorem slotC_maskR : slotC (maskR ma mb mc md) = mc := by
  apply BitVec.eq_of_toNat_eq; rw [slotC, field_toNat, maskR_toNat]; omega
@[simp] theorem slotD_maskR : slotD (maskR ma mb mc md) = md := by
  apply BitVec.eq_of_toNat_eq; rw [slotD, field_toNat, maskR_toNat]; omega
theorem zeroField_maskR : zeroField (maskR ma mb mc md) = BitVec.allOnes 8 := by
  apply BitVec.eq_of_toNat_eq; rw [zeroField, field_toNat, maskR_toNat, BitVec.toNat_allOnes]; omega

end

section
variable {ka kb kc kd : SlotKind} {w : Word}

/-- A legal word of format R, under the mask of its row, is the row's match (R98). -/
theorem LegalR.row {n : Nat} (h : LegalR ka kb kc kd w) (hopc : (opcOf w).toNat = n) :
    w &&& maskR (slotMask ka) (slotMask kb) (slotMask kc) (slotMask kd) = packR (BitVec.ofNat 8 n) 0 0 0 0 := by
  rw [← hopc, BitVec.ofNat_toNat, BitVec.setWidth_eq]
  have hrow := row_packR (opc := opcOf w) _ _ _ _ rfl rfl h.a h.b h.c h.d
  rwa [packR_fields w h.zero] at hrow

theorem LegalR.of_row {opc : BitVec 8}
    (h : w &&& maskR (slotMask ka) (slotMask kb) (slotMask kc) (slotMask kd) = packR opc 0 0 0 0) :
    LegalR ka kb kc kd w where
  zero := by
    have hz := congrArg zeroField h
    rwa [zeroField_and, zeroField_maskR, BitVec.and_allOnes, zeroField_packR] at hz
  a := by simpa using congrArg slotA h
  b := by simpa using congrArg slotB h
  c := by simpa using congrArg slotC h
  d := by simpa using congrArg slotD h

end

/-! Decoding and encoding (R97, R98). -/

theorem decode_encode (i : Instr) : decode (encode i) = .ok i := by
  cases i
  case li xd imm =>
    rw [encode, decode, opcOf_packI]
    exact formatI_eq_ok_iff.2 ⟨by simp, by simp⟩
  case halt | luma | thresh | binz | binarize | locf | loca | locate | xform =>
    rw [encode, decode, opcOf_packR]
    exact formatZ_eq_ok_iff.2 ⟨rfl, legalR_packR (by simp) (by simp) (by simp) (by simp)⟩
  all_goals
    rw [encode, decode, opcOf_packR]
    exact formatR_eq_ok_iff.2 ⟨by simp, legalR_packR (by simp) (by simp) (by simp) (by simp)⟩

/-- What a legal word is: the word of the command it decodes to, and under the mask of that command's row the match. -/
theorem decode_eq_ok {w : Word} {i : Instr} (h : decode w = .ok i) :
    encode i = w ∧ w &&& (tableRow i).1 = (tableRow i).2 := by
  unfold decode at h
  dsimp only at h
  split at h
  case h_45 => cases h
  case h_2 hopc =>
    obtain ⟨rfl, hb⟩ := formatI_eq_ok_iff.1 h
    have hopc : opcOf w = 1#8 := BitVec.eq_of_toNat_eq hopc
    have hw : encode (.li (xregOf (slotA w)) (immField w)) = w := by
      rw [encode, xslot_xregOf, ← hopc]
      exact packI_fields w hb
    exact ⟨hw, hw ▸ Table.li ..⟩
  case h_1 hopc | h_35 hopc | h_36 hopc | h_37 hopc | h_38 hopc | h_39 hopc | h_40 hopc | h_41 hopc | h_42 hopc =>
    obtain ⟨rfl, hlegal⟩ := formatZ_eq_ok_iff.1 h
    exact ⟨hlegal.packR_slotWord hopc, hlegal.row hopc⟩
  all_goals
    rename_i hopc
    obtain ⟨rfl, hlegal⟩ := formatR_eq_ok_iff.1 h
    exact ⟨hlegal.packR_slotWord hopc, hlegal.row hopc⟩

theorem opcOf_tableRow (i : Instr) : opcOf (tableRow i).1 = BitVec.allOnes 8 := by
  cases i <;> (dsimp only [tableRow]; decide)

theorem tableRow_match (i : Instr) : (tableRow i).2 = packR (opcOf (encode i)) 0 0 0 0 := by
  cases i
  case li xd imm => rw [encode, opcOf_packI]; rfl
  all_goals rw [encode, opcOf_packR]; rfl

theorem decode_of_row {w : Word} {i : Instr} (h : w &&& (tableRow i).1 = (tableRow i).2) : ∃ j, decode w = .ok j := by
  rw [tableRow_match] at h
  have hopc : opcOf w = opcOf (encode i) := by
    have hopc := congrArg opcOf h
    rwa [opcOf_and, opcOf_tableRow, BitVec.and_allOnes, opcOf_packR] at hopc
  unfold decode
  rw [hopc]
  cases i
  case li xd imm =>
    have hb : slotB w = 0#4 := by
      have hb := congrArg slotB h
      have hm : slotB (0x0000F0FF#32) = BitVec.allOnes 4 := by decide
      rwa [slotB_and, tableRow, hm, BitVec.and_allOnes, slotB_packR] at hb
    rw [encode, opcOf_packI]
    exact ⟨_, formatI_eq_ok_iff.2 ⟨rfl, hb⟩⟩
  case halt | luma | thresh | binz | binarize | locf | loca | locate | xform =>
    rw [encode, opcOf_packR]
    exact ⟨_, formatZ_eq_ok_iff.2 ⟨rfl, .of_row h⟩⟩
  all_goals
    rw [encode, opcOf_packR]
    exact ⟨_, formatR_eq_ok_iff.2 ⟨rfl, .of_row h⟩⟩

theorem tableRow_mem_rowSamples (i : Instr) : tableRow i ∈ rowSamples.map tableRow := by
  cases i <;> (dsimp only [tableRow]; decide)

/-- Settles O3: the opcode of the command's word picks its row, and the slots name the operands again. -/
theorem decodeEncode : Obligations.DecodeEncode := by
  unfold Obligations.DecodeEncode
  exact decode_encode

/-- Settles O4: the slots a legal word names are the slots of the command, and its other fields are zero. -/
theorem encodeDecode : Obligations.EncodeDecode := by
  unfold Obligations.EncodeDecode
  intro w i h
  obtain ⟨hw, -⟩ := decode_eq_ok h
  exact hw

/-- Settles O2: the row is the row of the command the word decodes to. -/
theorem legalWords : Obligations.LegalWords := by
  unfold Obligations.LegalWords
  intro w
  constructor
  case mp =>
    rintro ⟨i, hi⟩
    obtain ⟨-, hrow⟩ := decode_eq_ok hi
    obtain ⟨r, hr, hri⟩ := List.mem_map.1 (tableRow_mem_rowSamples i)
    exact ⟨r, hr, hri ▸ hrow⟩
  case mpr =>
    rintro ⟨r, -, hrow⟩
    exact decode_of_row hrow

/-- Settles O1. -/
theorem workedEncodings : Obligations.WorkedEncodings := by
  unfold Obligations.WorkedEncodings
  decide

end Sys2Proof
end

section
/-! The control and move commands (R120 to R125), and the frame of the commands that write one scalar register: each is its
checks in order, then one write of its destination. -/

open Sys2Proof.Certificates

namespace Sys2Proof.Machine

/-! The frame of a command that writes one scalar register (R123 to R175). -/

/-- The result `r` of a command at `s` is a fault with no other effect, or `xd` is written and the command completes. -/
def ScalarEnds (xd : XReg) (s : State) (r : Result) : Prop :=
  (∃ c n, r = s.raise c n) ∨ ∃ v, r = (s.setX xd v).complete

namespace ScalarEnds

variable {xd : XReg} {s : State}

theorem raise (c : ErrCode) (n : Nat) : ScalarEnds xd s (s.raise c n) := .inl ⟨c, n, rfl⟩

theorem write (v : Scalar) : ScalarEnds xd s (s.setX xd v).complete := .inr ⟨v, rfl⟩

/-- A check that raises a fault comes before the rest of the command. -/
theorem guard {p : Prop} [Decidable p] {c : ErrCode} {n : Nat} {r : Result} (h : ScalarEnds xd s r) :
    ScalarEnds xd s (if p then s.raise c n else r) := by
  split
  · exact raise c n
  · exact h

end ScalarEnds

theorem execGflog_scalarEnds (s : State) (xd xs1 : XReg) : ScalarEnds xd s (execGflog xd xs1 s) := by
  refine .guard ?_
  split
  · exact .raise ..
  · exact .write _

theorem execPcidx_scalarEnds (s : State) (xd : XReg) (ps1 : PReg) (xs2 : XReg) :
    ScalarEnds xd s (execPcidx xd ps1 xs2 s) := by
  unfold execPcidx
  split
  · exact .raise ..
  · exact .write _

theorem exec_scalarEnds (s : State) {i : Instr} {xd : XReg} (h : scalarDest i = some xd) : ScalarEnds xd s (exec i s) := by
  cases i with
  | li | pdeg | pcoef | peq | pisz => cases h; exact .write _
  | lds | gfexp | peval => cases h; exact .guard (.write _)
  | gfadd | gfmul | gfinv => cases h; exact .guard (.guard (.write _))
  | gfdiv => cases h; exact .guard (.guard (.guard (.write _)))
  | gflog xd xs1 => cases h; exact execGflog_scalarEnds s xd xs1
  | pcidx xd ps1 xs2 => cases h; exact execPcidx_scalarEnds s xd ps1 xs2
  | _ => cases h

/-- Settles O22: what the write of the destination leaves is read off `exec_scalarEnds`, what every command leaves is
`commandEnds` (O8). -/
theorem scalarFrame : Obligations.ScalarFrame := by
  unfold Obligations.ScalarFrame
  intro i xd s t hdest hex
  have hi : i ≠ .halt := by
    rintro rfl
    cases hdest
  obtain ⟨hfixed, hend⟩ := exec_fixed_endsAs hi hex
  rcases exec_scalarEnds s hdest with ⟨c, n, hfault⟩ | ⟨v, hwrite⟩
  · cases hex.symm.trans hfault
    exact ⟨fun _ _ => rfl, rfl, hfixed, fun _ => rfl, sameImages_refl s, sameIntCsr_refl s, ⟨rfl, rfl, rfl⟩, rfl, hend⟩
  · cases hex.symm.trans hwrite
    exact ⟨fun r hr => s.getX_setX_ne xd r v hr, rfl, hfixed, fun _ => rfl, sameImages_refl s, sameIntCsr_refl s,
      ⟨rfl, rfl, rfl⟩, rfl, hend⟩

/-! The step and the commands (R120 to R125). -/

/-- Settles O5: the fetch at `CP` answers the command, and a poll that passes changes no word of `CMD`. -/
theorem stepRunsDecoded : Obligations.StepRunsDecoded := by
  unfold Obligations.StepRunsDecoded
  intro s i hturn hcp hdec
  rw [step_of_engineTurn hturn, engineStep, s.polled.fetch_ok i hcp hdec]

section
variable (w : Word)

@[simp] theorem doneBit_statusDone : doneBit (statusDone w) = true := by simp [doneBit, statusDone]
@[simp] theorem busyBit_statusDone : busyBit (statusDone w) = false := by simp [busyBit, statusDone]
@[simp] theorem faultBit_statusDone : faultBit (statusDone w) = faultBit w := by simp [faultBit, statusDone]

end

/-- Settles O26: `HALT` acts on the bits of `STATUS` alone, and `LI` has no check to fail. -/
theorem haltLiEffect : Obligations.HaltLiEffect := by
  unfold Obligations.HaltLiEffect
  refine ⟨decode_encode .halt, fun s => ⟨s.halted, rfl, ?_, ?_, ?_, fun hbusy => ?_, rfl⟩,
    fun xd imm s => ⟨decode_encode (.li xd imm), rfl⟩⟩
  · exact doneBit_statusDone s.status
  · exact busyBit_statusDone s.status
  · exact faultBit_statusDone s.status
  · rw [State.halted_status, hbusy]
    decide

section
variable {s : State} {xd xs1 xs2 : XReg}

theorem execLds_of_le (h : Config.symSize ≤ s.natX xs1) : execLds xd xs1 s = s.raise .addr (s.natX xs1) := if_pos h

theorem execLds_of_lt (h : s.natX xs1 < Config.symSize) :
    execLds xd xs1 s = (s.setX xd ((s.symByte (s.natX xs1)).setWidth 16)).complete := if_neg (Nat.not_le.2 h)

theorem execSts_of_not_byte (h : 255 < s.natX xs2) : execSts xs1 xs2 s = s.raise .range (s.natX xs2) := if_pos h

theorem execSts_of_le (hv : s.natX xs2 ≤ 255) (h : Config.symSize ≤ s.natX xs1) :
    execSts xs1 xs2 s = s.raise .addr (s.natX xs1) :=
  (if_neg (Nat.not_lt.2 hv)).trans (if_pos h)

theorem execSts_of_lt (hv : s.natX xs2 ≤ 255) (h : s.natX xs1 < Config.symSize) :
    execSts xs1 xs2 s = (s.storeSym (s.natX xs1) [BitVec.ofNat 8 (s.natX xs2)]).complete :=
  (if_neg (Nat.not_lt.2 hv)).trans (if_neg (Nat.not_le.2 h))

end

theorem State.symByte_storeSym_singleton (s : State) (a : Nat) (v : Byte) : (s.storeSym a [v]).symByte a = v :=
  s.symByte_storeSym_inside a [v] 0 Nat.one_pos

theorem State.symByte_storeSym_singleton_ne (s : State) {a b : Nat} (v : Byte) (h : b ≠ a) :
    (s.storeSym a [v]).symByte b = s.symByte b :=
  s.symByte_storeSym_outside a [v] b (by simp; omega)

/-- Settles O27: each clause is the case of the operands the command's checks come to. -/
theorem byteMoves : Obligations.ByteMoves := by
  unfold Obligations.ByteMoves
  intro xd xs1 xs2 s
  refine ⟨decode_encode (.lds xd xs1), decode_encode (.sts xs1 xs2), fun haddr => execLds_of_le haddr,
    fun haddr => execLds_of_lt haddr, fun hv => execSts_of_not_byte hv, fun hv haddr => execSts_of_le hv haddr,
    fun hv haddr => ⟨_, execSts_of_lt hv haddr, ?_, fun a ha => ?_, rfl⟩⟩
  · calc ((s.storeSym (s.natX xs1) [BitVec.ofNat 8 (s.natX xs2)]).symByte (s.natX xs1)).toNat
      _ = (BitVec.ofNat 8 (s.natX xs2)).toNat := by rw [State.symByte_storeSym_singleton]
      _ = s.natX xs2 := Nat.mod_eq_of_lt (Nat.lt_succ_of_le hv)
  · exact s.symByte_storeSym_singleton_ne _ ha

end Sys2Proof.Machine
end

section
/-! The field laws (R138) and the field scalar commands (R140 to R145). Over the non-zero elements a law is one of the
exponents; distributivity is the linearity of the carry-less product. Each command is its `gf` checks in operand order, then
the zero check, then the write of its result. -/

open Sys2Proof.Certificates

namespace Sys2Proof.Machine

/-! The laws of the product and of the inverse (R133 to R138). -/

theorem gmul_zero (x : GF) : gmul x 0 = 0 := by
  unfold gmul
  cases glog x <;> rfl

theorem gmul_assoc (x y z : GF) : gmul (gmul x y) z = gmul x (gmul y z) := by
  rcases eq_or_ne x 0 with rfl | hx
  · simp only [zero_gmul]
  rcases eq_or_ne y 0 with rfl | hy
  · simp only [zero_gmul, gmul_zero]
  rcases eq_or_ne z 0 with rfl | hz
  · simp only [gmul_zero]
  obtain ⟨i, hi, -, rfl⟩ := glog_of_ne_zero hx
  obtain ⟨j, hj, -, rfl⟩ := glog_of_ne_zero hy
  obtain ⟨k, hk, -, rfl⟩ := glog_of_ne_zero hz
  have hmod (n : Nat) : n % 63 < 63 := Nat.mod_lt n (by decide)
  rw [gmul_gexp hi hj, gmul_gexp (hmod _) hk, gmul_gexp hj hk, gmul_gexp hi (hmod _), Nat.mod_add_mod, Nat.add_mod_mod,
    Nat.add_assoc]

theorem gmul_xor (x y z : GF) : gmul x (y ^^^ z) = gmul x y ^^^ gmul x z := by
  simp only [gmul_eq_reduced, reduced_carryless, BitVec.getLsbD_xor, sel_bne]
  ac_rfl

theorem ginv_of_glog {v : GF} {l : Nat} (h : glog v = some l) : ginv v = gexp (63 - l) := by rw [ginv, h]

/-- `EXP[63]` is `EXP[0]` (R37), so the exponent of an inverse may be taken modulo 63. -/
theorem gexp_mod {n : Nat} (h : n ≤ 63) : gexp (n % 63) = gexp n := by
  rcases Nat.lt_or_eq_of_le h with hlt | rfl
  · rw [Nat.mod_eq_of_lt hlt]
  · rfl

theorem gmul_ginv {x : GF} (h : x ≠ 0) : gmul x (ginv x) = 1 := by
  obtain ⟨i, hi, hlog, rfl⟩ := glog_of_ne_zero h
  rw [ginv_of_glog hlog, ← gexp_mod (Nat.sub_le 63 i), gmul_gexp hi (Nat.mod_lt _ (by decide)), Nat.add_mod_mod,
    Nat.add_sub_cancel' hi.le]
  rfl

/-! Register values as field elements (R131). -/

theorem scalarGF_xor (u v : Scalar) : scalarGF (u ^^^ v) = scalarGF u ^^^ scalarGF v := BitVec.setWidth_xor

theorem gfScalar_scalarGF {v : Scalar} (h : v.toNat ≤ 63) : gfScalar (scalarGF v) = v := by
  refine BitVec.eq_of_toNat_eq ?_
  simp only [gfScalar, scalarGF, BitVec.toNat_setWidth]
  omega

theorem gfScalar_xor_scalarGF {u v : Scalar} (hu : u.toNat ≤ 63) (hv : v.toNat ≤ 63) :
    gfScalar (scalarGF u ^^^ scalarGF v) = u ^^^ v := by
  have hxor : (u ^^^ v).toNat < 2 ^ 6 := by
    rw [BitVec.toNat_xor]
    exact Nat.xor_lt_two_pow (Nat.lt_succ_of_le hu) (Nat.lt_succ_of_le hv)
  rw [← scalarGF_xor, gfScalar_scalarGF (Nat.le_of_lt_succ hxor)]

theorem scalarGF_ne_zero {v : Scalar} (h : v.toNat ≤ 63) (h0 : v.toNat ≠ 0) : scalarGF v ≠ 0 := by
  intro hzero
  rw [← gfScalar_scalarGF h, hzero] at h0
  exact h0 rfl

/-! The check `gf` (R131). -/

section
variable {α : Type} {n : Nat} (fault rest : α)

theorem gfCheck_of_lt (h : 63 < n) : (if !isGF n then fault else rest) = fault := by simp [isGF, h]

theorem gfCheck_of_le (h : n ≤ 63) : (if !isGF n then fault else rest) = rest := by simp [isGF, h]

end

/-! The commands, each from the case of its operands. -/

section
variable {s : State} {xd xs1 xs2 : XReg}

/-- Of two operands the first one above 63 is reported (R131, R140, R141, R143). -/
theorem gfChecks_of_second (r : Result) (hu : s.natX xs1 ≤ 63) (hv : 63 < s.natX xs2) :
    (if !isGF (s.natX xs1) then s.raise .range (s.natX xs1)
      else if !isGF (s.natX xs2) then s.raise .range (s.natX xs2) else r) = s.raise .range (s.natX xs2) :=
  (gfCheck_of_le _ _ hu).trans (gfCheck_of_lt _ _ hv)

/-- Both operands are field elements, and the command goes on. -/
theorem gfChecks_of_le (r : Result) (hu : s.natX xs1 ≤ 63) (hv : s.natX xs2 ≤ 63) :
    (if !isGF (s.natX xs1) then s.raise .range (s.natX xs1)
      else if !isGF (s.natX xs2) then s.raise .range (s.natX xs2) else r) = r :=
  (gfCheck_of_le _ _ hu).trans (gfCheck_of_le _ _ hv)

theorem execGfadd_of_le (hu : s.natX xs1 ≤ 63) (hv : s.natX xs2 ≤ 63) :
    execGfadd xd xs1 xs2 s = (s.setX xd (s.getX xs1 ^^^ s.getX xs2)).complete := by
  rw [← gfScalar_xor_scalarGF hu hv]
  exact gfChecks_of_le _ hu hv

theorem execGfmul_of_le (hu : s.natX xs1 ≤ 63) (hv : s.natX xs2 ≤ 63) : execGfmul xd xs1 xs2 s =
    (s.setX xd (gfScalar (gmul (scalarGF (s.getX xs1)) (scalarGF (s.getX xs2))))).complete :=
  gfChecks_of_le _ hu hv

theorem execGfinv_of_zero (h0 : s.natX xs1 = 0) : execGfinv xd xs1 s = s.raise .gfZero 0 :=
  (gfCheck_of_le _ _ (by omega)).trans (if_pos h0)

theorem execGfinv_of_ne_zero (hu : s.natX xs1 ≤ 63) (h0 : s.natX xs1 ≠ 0) :
    execGfinv xd xs1 s = (s.setX xd (gfScalar (ginv (scalarGF (s.getX xs1))))).complete :=
  (gfCheck_of_le _ _ hu).trans (if_neg h0)

theorem execGfdiv_of_zero (hu : s.natX xs1 ≤ 63) (h0 : s.natX xs2 = 0) :
    execGfdiv xd xs1 xs2 s = s.raise .gfZero 0 :=
  (gfChecks_of_le _ hu (by omega)).trans (if_pos h0)

theorem execGfdiv_of_ne_zero (hu : s.natX xs1 ≤ 63) (hv : s.natX xs2 ≤ 63) (h0 : s.natX xs2 ≠ 0) :
    execGfdiv xd xs1 xs2 s =
      (s.setX xd (gfScalar (gmul (scalarGF (s.getX xs1)) (ginv (scalarGF (s.getX xs2)))))).complete :=
  (gfChecks_of_le _ hu hv).trans (if_neg h0)

theorem execGfexp_of_lt (h : 63 < s.natX xs1) : execGfexp xd xs1 s = s.raise .range (s.natX xs1) := if_pos h

theorem execGfexp_of_le (h : s.natX xs1 ≤ 63) :
    execGfexp xd xs1 s = (s.setX xd (gfScalar (gexp (s.natX xs1)))).complete := if_neg (Nat.not_lt.2 h)

theorem execGflog_of_zero (h0 : s.natX xs1 = 0) : execGflog xd xs1 s = s.raise .gfZero 0 := by
  have hx : s.getX xs1 = 0 := BitVec.eq_of_toNat_eq h0
  refine (gfCheck_of_le _ _ (by omega)).trans ?_
  rw [hx]
  rfl

theorem execGflog_of_glog {l : Nat} (hu : s.natX xs1 ≤ 63) (hl : glog (scalarGF (s.getX xs1)) = some l) :
    execGflog xd xs1 s = (s.setX xd (toScalar l)).complete := by
  refine (gfCheck_of_le _ _ hu).trans ?_
  rw [hl]

end

/-- Settles O54: the laws of the product and the inverse, and `GFINV`'s zero check. -/
theorem fieldLaws : Obligations.FieldLaws := by
  unfold Obligations.FieldLaws
  exact ⟨fun x y z => ⟨BitVec.xor_zero, gmul_ginv, (gmul_assoc x y z).symm, gmul_xor x y z, fun _ => zero_gmul (ginv y)⟩,
    fun xd xs1 s h0 => execGfinv_of_zero h0⟩

/-- Settles O28: each clause is the case of the operands the two checks come to. -/
theorem gfAddMul : Obligations.GfAddMul := by
  unfold Obligations.GfAddMul
  intro xd xs1 xs2 s
  exact ⟨decode_encode (.gfadd xd xs1 xs2), decode_encode (.gfmul xd xs1 xs2),
    List.forall_mem_cons.2 ⟨⟨fun hu => gfCheck_of_lt _ _ hu, gfChecks_of_second _⟩,
      List.forall_mem_singleton.2 ⟨fun hu => gfCheck_of_lt _ _ hu, gfChecks_of_second _⟩⟩,
    fun hu hv => ⟨execGfadd_of_le hu hv, execGfmul_of_le hu hv⟩⟩

/-- Settles O29: each clause is the case of the operands the checks come to; a non-zero divisor has a logarithm. -/
theorem gfInvDiv : Obligations.GfInvDiv := by
  unfold Obligations.GfInvDiv
  intro xd xs1 xs2 s
  refine ⟨decode_encode (.gfinv xd xs1), decode_encode (.gfdiv xd xs1 xs2),
    fun hu => ⟨gfCheck_of_lt _ _ hu, gfCheck_of_lt _ _ hu⟩, fun h0 => execGfinv_of_zero h0,
    fun hu hv => gfChecks_of_second _ hu hv, fun hu h0 => execGfdiv_of_zero hu h0, fun hu h0 => ?_, fun hu hv h0 => ?_⟩
  · obtain ⟨l, -, hlog, -⟩ := glog_of_ne_zero (scalarGF_ne_zero hu h0)
    refine ⟨l, hlog, ?_⟩
    rw [← ginv_of_glog hlog]
    exact execGfinv_of_ne_zero hu h0
  · obtain ⟨l, -, hlog, -⟩ := glog_of_ne_zero (scalarGF_ne_zero hv h0)
    refine ⟨l, hlog, ?_⟩
    rw [← ginv_of_glog hlog]
    exact execGfdiv_of_ne_zero hu hv h0

/-- Settles O30: each clause is the case of the operand the checks come to; `LOG` inverts `EXP` on a non-zero one. -/
theorem gfExpLog : Obligations.GfExpLog := by
  unfold Obligations.GfExpLog
  intro xd xs1 s
  refine ⟨decode_encode (.gfexp xd xs1), decode_encode (.gflog xd xs1),
    fun hu => ⟨execGfexp_of_lt hu, gfCheck_of_lt _ _ hu⟩, fun h0 => execGflog_of_zero h0, fun hu => execGfexp_of_le hu,
    fun hu h0 => ?_⟩
  obtain ⟨l, hl, hlog, hexp⟩ := glog_of_ne_zero (scalarGF_ne_zero hu h0)
  exact ⟨l, hl, hexp, execGflog_of_glog hu hlog⟩

end Sys2Proof.Machine
end

section
/-! Field polynomials through their coefficients (R150 to R160): a normalised sequence is fixed by them, the sum, the
multiple and the product are those of the coefficients, evaluation is the sum of the powers, and division splits the
dividend. The product and the evaluation are linear in the leading coefficient, so each of their laws goes by induction on the
sequence. -/

open Sys2Proof.Certificates

namespace Sys2Proof.Machine

/-! Sums in the field (R132). -/

theorem xor_zero (u : GF) : u ^^^ 0 = u := BitVec.xor_zero

theorem zero_xor (u : GF) : 0 ^^^ u = u := BitVec.zero_xor

theorem xor_cancel_middle (u v w : GF) : u ^^^ v ^^^ (v ^^^ w) = u ^^^ w := by
  rw [BitVec.xor_assoc, ← BitVec.xor_assoc v, BitVec.xor_self, BitVec.zero_xor]

theorem gmul_comm (u v : GF) : gmul u v = gmul v u := by
  unfold gmul
  cases glog u <;> cases glog v <;> simp [Nat.add_comm]

theorem xor_gmul (u v w : GF) : gmul (u ^^^ v) w = gmul u w ^^^ gmul v w := by
  rw [gmul_comm, gmul_xor, gmul_comm w u, gmul_comm w v]

theorem gmul_one : ∀ u : GF, gmul u 1 = u := by decide

theorem foldl_xor (r : GF) (l : List GF) : l.foldl (fun a b => a ^^^ b) r = r ^^^ gfSum l := by
  unfold gfSum
  induction l generalizing r with
  | nil => simp
  | cons c l ih => rw [List.foldl_cons, List.foldl_cons, ih, ih (0 ^^^ c), zero_xor, BitVec.xor_assoc]

theorem gfSum_append (l₁ l₂ : List GF) : gfSum (l₁ ++ l₂) = gfSum l₁ ^^^ gfSum l₂ :=
  List.foldl_append.trans (foldl_xor ..)

/-- The sum of the first `n` values of `f`. -/
def gfSumTo (n : Nat) (f : Nat → GF) : GF := gfSum ((List.range n).map f)

theorem gfSumTo_succ (n : Nat) (f : Nat → GF) : gfSumTo (n + 1) f = gfSumTo n f ^^^ f n := by
  rw [gfSumTo, List.range_succ, List.map_append, gfSum_append]
  simp [gfSumTo, gfSum]

theorem gfSumTo_add (n m : Nat) (f : Nat → GF) : gfSumTo (n + m) f = gfSumTo n f ^^^ gfSumTo m fun i => f (n + i) := by
  rw [gfSumTo, List.range_add, List.map_append, gfSum_append, List.map_map]
  rfl

theorem gfSumTo_congr {n : Nat} {f g : Nat → GF} (h : ∀ i, i < n → f i = g i) : gfSumTo n f = gfSumTo n g := by
  unfold gfSumTo
  rw [List.map_congr_left fun i hi => h i (List.mem_range.1 hi)]

theorem gfSumTo_eq_zero {n : Nat} {f : Nat → GF} (h : ∀ i, i < n → f i = 0) : gfSumTo n f = 0 := by
  rw [gfSumTo_congr h]
  induction n with
  | zero => rfl
  | succ n ih => rw [gfSumTo_succ, ih fun i hi => h i (by omega), xor_zero]

theorem gfSumTo_xor (n : Nat) (f g : Nat → GF) :
    gfSumTo n (fun i => f i ^^^ g i) = gfSumTo n f ^^^ gfSumTo n g := by
  induction n with
  | zero => exact (xor_zero 0).symm
  | succ n ih =>
    simp only [gfSumTo_succ, ih]
    ac_rfl

theorem gmul_gfSumTo (u : GF) (n : Nat) (f : Nat → GF) : gmul u (gfSumTo n f) = gfSumTo n fun i => gmul u (f i) := by
  induction n with
  | zero => exact gmul_zero u
  | succ n ih => rw [gfSumTo_succ, gfSumTo_succ, gmul_xor, ih]

/-- A sum with one term. -/
theorem gfSumTo_single (n k : Nat) (f : Nat → GF) :
    gfSumTo n (fun i => if i = k then f i else 0) = if k < n then f k else 0 := by
  induction n with
  | zero => rfl
  | succ n ih =>
    rw [gfSumTo_succ, ih]
    rcases Nat.lt_trichotomy k n with hlt | rfl | hgt
    · rw [if_pos hlt, if_neg hlt.ne', if_pos (by omega), xor_zero]
    · rw [if_neg (Nat.lt_irrefl k), if_pos rfl, if_pos (Nat.lt_succ_self k), zero_xor]
    · rw [if_neg hgt.not_gt, if_neg hgt.ne, if_neg (by omega), xor_zero]

/-! Coefficients (R152). -/

theorem coef_nil (j : Nat) : coef [] j = 0 := rfl

theorem coef_of_le {q : Poly} {j : Nat} (h : q.length ≤ j) : coef q j = 0 := by simp [coef, h]

theorem coef_of_lt {q : Poly} {j : Nat} (h : j < q.length) : coef q j = q.getD (q.length - 1 - j) 0 := by
  rw [coef, List.getD_eq_getElem?_getD, List.getElem?_reverse h, ← List.getD_eq_getElem?_getD]

theorem getD_eq_coef {q : Poly} {k : Nat} (h : k < q.length) : q.getD k 0 = coef q (q.length - 1 - k) := by
  rw [coef_of_lt (by omega), show q.length - 1 - (q.length - 1 - k) = k by omega]

/-- The leading coefficient is that of `X^len`, of what follows it. -/
theorem coef_cons (c : GF) (q : Poly) (j : Nat) : coef (c :: q) j = (if j = q.length then c else 0) ^^^ coef q j := by
  rcases Nat.lt_trichotomy j q.length with hlt | rfl | hgt
  · rw [if_neg hlt.ne, zero_xor]
    simp [coef, List.getElem?_append, hlt]
  · rw [if_pos rfl, coef_of_le le_rfl, xor_zero]
    simp [coef]
  · rw [if_neg hgt.ne', coef_of_le hgt.le, coef_of_le hgt, xor_zero]

theorem coef_cons_gmul (c : GF) (q : Poly) (i : Nat) (u : GF) :
    gmul (coef (c :: q) i) u = (if i = q.length then gmul c u else 0) ^^^ gmul (coef q i) u := by
  rw [coef_cons, xor_gmul]
  split
  · rfl
  · rw [zero_gmul]

theorem coef_zero_cons (q : Poly) (j : Nat) : coef (0 :: q) j = coef q j := by
  rw [coef_cons, ite_self, zero_xor]

theorem coef_zero_singleton (j : Nat) : coef [0] j = 0 := coef_zero_cons [] j

theorem coef_zeros_append (n : Nat) (q : Poly) (j : Nat) : coef (zeros n ++ q) j = coef q j := by
  induction n with
  | zero => rfl
  | succ n ih => exact (coef_zero_cons _ j).trans ih

@[simp] theorem coef_norm (q : Poly) (j : Nat) : coef (norm q) j = coef q j := by
  fun_induction norm q with
  | case1 => exact coef_zero_singleton j
  | case2 c => rfl
  | case3 d cs ih => rw [ih, coef_zero_cons]
  | case4 c d cs hc => rfl

theorem coef_map {f : GF → GF} (hf : f 0 = 0) (q : Poly) (j : Nat) : coef (q.map f) j = f (coef q j) := by
  rw [coef, ← List.map_reverse]
  conv_lhs => rw [← hf]
  exact List.getD_map ..

theorem coef_zipWith_xor {a b : Poly} (h : a.length = b.length) (j : Nat) :
    coef (List.zipWith (fun u v => u ^^^ v) a b) j = coef a j ^^^ coef b j := by
  induction a generalizing b with
  | nil => rw [List.length_eq_zero_iff.1 h.symm, coef_nil, xor_zero]; rfl
  | cons c a ih =>
    obtain _ | ⟨d, b⟩ := b
    · cases h
    have hlen : a.length = b.length := Nat.succ.inj h
    rw [List.zipWith_cons_cons, coef_cons, coef_cons, coef_cons, ih hlen, List.length_zipWith, hlen, Nat.min_self]
    split
    · ac_rfl
    · rw [zero_xor, zero_xor, zero_xor]

/-! Normal forms (R24): a normalised sequence is fixed by its coefficients. -/

theorem norm_zero_cons (q : Poly) : norm (0 :: q) = norm q := by
  cases q with
  | nil => rfl
  | cons d cs => exact if_pos rfl

theorem norm_zeros_append (n : Nat) (q : Poly) : norm (zeros n ++ q) = norm q := by
  induction n with
  | zero => rfl
  | succ n ih => exact (norm_zero_cons _).trans ih

theorem length_padTo {n : Nat} {q : Poly} (h : q.length ≤ n) : (padTo n q).length = n := by
  simp [padTo, zeros, h]

theorem coef_padTo (n : Nat) (q : Poly) (j : Nat) : coef (padTo n q) j = coef q j := coef_zeros_append _ q j

theorem eq_of_coef_of_length {p q : Poly} (hlen : p.length = q.length) (h : ∀ j, coef p j = coef q j) : p = q := by
  refine List.ext_getElem hlen fun k hp hq => ?_
  rw [← List.getD_eq_getElem p 0 hp, ← List.getD_eq_getElem q 0 hq, getD_eq_coef hp, getD_eq_coef hq, hlen, h]

/-- Sequences of the same coefficients have one normal form: padded to one length they are the same. -/
theorem norm_eq_of_coef {p q : Poly} (h : ∀ j, coef p j = coef q j) : norm p = norm q := by
  have hpad : padTo (max p.length q.length) p = padTo (max p.length q.length) q :=
    eq_of_coef_of_length (by rw [length_padTo (le_max_left ..), length_padTo (le_max_right ..)])
      fun j => by rw [coef_padTo, coef_padTo, h]
  rw [← norm_zeros_append (max p.length q.length - p.length) p, ← norm_zeros_append (max p.length q.length - q.length) q]
  exact congrArg norm hpad

theorem eq_of_coef {p q : Poly} (hp : norm p = p) (hq : norm q = q) (h : ∀ j, coef p j = coef q j) : p = q := by
  rw [← hp, ← hq, norm_eq_of_coef h]

/-- A normalised sequence begins with a non-zero coefficient unless it is `[0]`. -/
theorem head_ne_zero {c : GF} {q : Poly} (hq : norm (c :: q) = c :: q) (h0 : c :: q ≠ [0]) : c ≠ 0 := by
  rintro rfl
  cases q with
  | nil => exact h0 rfl
  | cons d cs =>
    have hlen := norm_length_le (d :: cs)
    rw [norm_zero_cons] at hq
    rw [hq] at hlen
    simp at hlen

theorem norm_cons {c : GF} (hc : c ≠ 0) (q : Poly) : norm (c :: q) = c :: q := by
  cases q with
  | nil => rfl
  | cons d cs => exact if_neg hc

theorem norm_padd (a b : Poly) : norm (padd a b) = padd a b := norm_norm _

theorem norm_pmul (a b : Poly) : norm (pmul a b) = pmul a b := by
  unfold pmul
  split
  · rfl
  · exact norm_norm _

/-! Sum and multiple (R155, R156). -/

theorem coef_padd (a b : Poly) (j : Nat) : coef (padd a b) j = coef a j ^^^ coef b j := by
  have hlen := (length_padTo (le_max_left a.length b.length)).trans (length_padTo (le_max_right a.length b.length)).symm
  calc coef (padd a b) j
    _ = coef (List.zipWith (fun u v => u ^^^ v) (padTo _ a) (padTo _ b)) j := coef_norm _ j
    _ = coef (padTo _ a) j ^^^ coef (padTo _ b) j := coef_zipWith_xor hlen j
    _ = coef a j ^^^ coef b j := by rw [coef_padTo, coef_padTo]

theorem coef_pmuls (q : Poly) (v : GF) (j : Nat) : coef (pmuls q v) j = gmul (coef q j) v := by
  rw [pmuls, coef_norm, coef_map (zero_gmul v)]

/-! Product (R157). -/

/-- The convolution of two sequences of coefficients, at `X^j`. -/
def polyConv (f g : Nat → GF) (j : Nat) : GF := gfSumTo (j + 1) fun i => gmul (f i) (g (j - i))

theorem polyConv_eq_zero {f g : Nat → GF} {j : Nat} (h : ∀ i, i ≤ j → f i = 0 ∨ g (j - i) = 0) : polyConv f g j = 0 :=
  gfSumTo_eq_zero fun i hi => by
    rcases h i (Nat.le_of_lt_succ hi) with h0 | h0
    · rw [h0, zero_gmul]
    · rw [h0, gmul_zero]

theorem polyConv_nil (g : Nat → GF) (j : Nat) : polyConv (coef []) g j = 0 :=
  polyConv_eq_zero fun _ _ => .inl rfl

theorem polyConv_coef_of_le {a b : Poly} {j : Nat} (h : a.length + b.length ≤ j + 1) :
    polyConv (coef a) (coef b) j = 0 :=
  polyConv_eq_zero fun i hi => by
    rcases Nat.lt_or_ge i a.length with hlt | hge
    · exact .inr (coef_of_le (by omega))
    · exact .inl (coef_of_le hge)

/-- The product of a leading coefficient with `g` is shifted by the length of what follows. -/
theorem polyConv_cons (c : GF) (q : Poly) (g : Nat → GF) (j : Nat) : polyConv (coef (c :: q)) g j =
    (if q.length ≤ j then gmul c (g (j - q.length)) else 0) ^^^ polyConv (coef q) g j := by
  simp only [polyConv, coef_cons_gmul, gfSumTo_xor, gfSumTo_single _ _ fun i => gmul c (g (j - i)), Nat.lt_succ_iff]

/-- The model's convolution counts from the leading coefficients. -/
theorem convAt_eq (a b : Poly) (k : Nat) :
    convAt a b k = gfSumTo (k + 1) fun i => gmul (a.getD i 0) (b.getD (k - i) 0) := by
  rw [gfSumTo, gfSum, List.foldl_map]
  rfl

theorem convAt_cons_zero (c : GF) (a b : Poly) : convAt (c :: a) b 0 = gmul c (b.getD 0 0) := by
  rw [convAt_eq]
  exact zero_xor _

theorem convAt_cons_succ (c : GF) (a b : Poly) (k : Nat) :
    convAt (c :: a) b (k + 1) = gmul c (b.getD (k + 1) 0) ^^^ convAt a b k := by
  rw [convAt_eq, convAt_eq, Nat.add_comm (k + 1) 1, gfSumTo_add]
  refine congrArg₂ _ (zero_xor _) (gfSumTo_congr fun i _ => ?_)
  rw [Nat.add_comm 1 i, Nat.add_sub_add_right, List.getD_cons_succ]

theorem convAt_eq_polyConv {a b : Poly} {j k : Nat} (h : j + k + 2 = a.length + b.length) :
    convAt a b k = polyConv (coef a) (coef b) j := by
  induction a generalizing k with
  | nil =>
    rw [convAt_eq, polyConv_nil]
    exact gfSumTo_eq_zero fun i _ => zero_gmul _
  | cons c a ih =>
    rw [List.length_cons] at h
    have hlead : gmul c (b.getD k 0) = if a.length ≤ j then gmul c (coef b (j - a.length)) else 0 := by
      split
      · rw [getD_eq_coef (by omega), show b.length - 1 - k = j - a.length by omega]
      · rw [List.getD_eq_default _ _ (by omega), gmul_zero]
    rw [polyConv_cons, ← hlead]
    cases k with
    | zero => rw [convAt_cons_zero, polyConv_coef_of_le (by omega), xor_zero]
    | succ k => rw [convAt_cons_succ, ih (by omega)]

theorem coef_map_range {n j : Nat} (f : Nat → GF) (h : j < n) : coef ((List.range n).map f) j = f (n - 1 - j) := by
  rw [coef_of_lt (by simpa using h), List.length_map, List.length_range, List.getD_eq_getElem _ _ (by simp; omega),
    List.getElem_map, List.getElem_range]

theorem coef_pmul (a b : Poly) (j : Nat) : coef (pmul a b) j = polyConv (coef a) (coef b) j := by
  unfold pmul
  split
  case isTrue hz =>
    rw [coef_zero_singleton, polyConv_eq_zero fun i _ => ?_]
    simp only [polyIsZero, Bool.or_eq_true, beq_iff_eq] at hz
    rcases hz with rfl | rfl
    · exact .inl (coef_zero_singleton i)
    · exact .inr (coef_zero_singleton (j - i))
  case isFalse =>
    rw [coef_norm]
    by_cases hj : j + 1 < a.length + b.length
    · rw [coef_map_range _ (by omega), convAt_eq_polyConv (j := j) (by omega)]
    · rw [coef_of_le (by simp; omega), polyConv_coef_of_le (by omega)]

/-! Evaluation (R154). -/

theorem gfPow_add (v : GF) (n i : Nat) : gfPow v (n + i) = gmul (gfPow v n) (gfPow v i) := by
  induction i with
  | zero => exact (gmul_one _).symm
  | succ i ih => rw [Nat.add_succ, gfPow, gfPow, ih, gmul_assoc]

theorem foldl_horner (q : Poly) (v r : GF) :
    q.foldl (fun r c => gmul r v ^^^ c) r = gmul r (gfPow v q.length) ^^^ ev q v := by
  unfold ev
  induction q generalizing r with
  | nil => rw [List.foldl_nil, List.foldl_nil, xor_zero]; exact (gmul_one r).symm
  | cons c q ih =>
    rw [List.foldl_cons, List.foldl_cons, ih, ih (gmul 0 v ^^^ c), zero_gmul, zero_xor, xor_gmul, gmul_assoc,
      gmul_comm v, BitVec.xor_assoc, List.length_cons, gfPow]

theorem ev_cons (c : GF) (q : Poly) (v : GF) : ev (c :: q) v = gmul c (gfPow v q.length) ^^^ ev q v := by
  rw [ev, List.foldl_cons, zero_gmul, zero_xor, foldl_horner]

/-- Evaluation is the sum of the coefficients times the powers of the point, from as many powers on as there are cells. -/
theorem ev_eq_gfSumTo {q : Poly} {n : Nat} (v : GF) (h : q.length ≤ n) :
    ev q v = gfSumTo n fun i => gmul (coef q i) (gfPow v i) := by
  induction q with
  | nil => exact (gfSumTo_eq_zero fun i _ => zero_gmul _).symm
  | cons c q ih =>
    simp only [coef_cons_gmul, gfSumTo_xor, gfSumTo_single n q.length fun i => gmul c (gfPow v i)]
    rw [if_pos (Nat.lt_of_succ_le h), ← ih (Nat.le_of_succ_le h), ev_cons]

theorem gfSumTo_polyConv {a b : Poly} {n : Nat} (v : GF) (h : a.length + b.length ≤ n) :
    (gfSumTo n fun j => gmul (polyConv (coef a) (coef b) j) (gfPow v j)) = gmul (ev a v) (ev b v) := by
  induction a with
  | nil => exact gfSumTo_eq_zero fun j _ => by rw [polyConv_nil, zero_gmul]
  | cons c a ih =>
    rw [List.length_cons] at h
    obtain ⟨m, rfl⟩ := Nat.exists_eq_add_of_le (show a.length ≤ n by omega)
    have hlead : (gfSumTo (a.length + m) fun j =>
        gmul (if a.length ≤ j then gmul c (coef b (j - a.length)) else 0) (gfPow v j)) =
          gmul (gmul c (gfPow v a.length)) (ev b v) := by
      rw [gfSumTo_add, gfSumTo_eq_zero fun i hi => by rw [if_neg (Nat.not_le.2 hi), zero_gmul], zero_xor,
        ev_eq_gfSumTo v (show b.length ≤ m by omega), gmul_gfSumTo]
      refine gfSumTo_congr fun i _ => ?_
      rw [if_pos (Nat.le_add_right ..), Nat.add_sub_cancel_left, gfPow_add, gmul_assoc, gmul_assoc,
        ← gmul_assoc (coef b i), gmul_comm (coef b i), gmul_assoc]
    simp only [polyConv_cons, xor_gmul, gfSumTo_xor, hlead, ih (by omega), ev_cons]

/-- The value of a product is the product of the values (R160). -/
theorem ev_pmul (a b : Poly) (v : GF) : ev (pmul a b) v = gmul (ev a v) (ev b v) := by
  rw [ev_eq_gfSumTo v (le_max_left (pmul a b).length (a.length + b.length)),
    ← gfSumTo_polyConv v (le_max_right (pmul a b).length (a.length + b.length))]
  simp only [coef_pmul]

theorem coef_pmul_one (q : Poly) (j : Nat) : coef (pmul q [1]) j = coef q j := by
  have hlow : (gfSumTo j fun i => gmul (coef q i) (coef [1] (j - i))) = 0 :=
    gfSumTo_eq_zero fun i hi => by rw [coef_of_le (q := [1]) (Nat.sub_pos_of_lt hi), gmul_zero]
  rw [coef_pmul, polyConv, gfSumTo_succ, hlow, zero_xor, Nat.sub_self]
  exact gmul_one _

/-! Division (R158). -/

theorem coef_xorOnto {q w : Poly} {n : Nat} (h : w.length = n + q.length) (j : Nat) :
    coef (xorOnto q w) j = (if n ≤ j then coef q (j - n) else 0) ^^^ coef w j := by
  induction q generalizing w with
  | nil => rw [coef_nil, ite_self, zero_xor, xorOnto]
  | cons c q ih =>
    obtain _ | ⟨d, w⟩ := w
    · cases h
    have hlen : w.length = n + q.length := Nat.succ.inj h
    rw [xorOnto, coef_cons, xorOnto_length, ih hlen, coef_cons, coef_cons, hlen]
    by_cases hj : n ≤ j
    · simp only [if_pos hj, show j = n + q.length ↔ j - n = q.length by omega]
      split
      · ac_rfl
      · simp only [zero_xor]
    · rw [if_neg hj, if_neg hj, if_neg (by omega), if_neg (by omega)]

/-- One row of the division: `q` times the divisor's other coefficients is taken from the head of the buffer. -/
def divRow (bt : Poly) (q : GF) (w : Poly) : Poly := if q = 0 then w else xorOnto (bt.map fun t => gmul t q) w

theorem divRow_length (bt : Poly) (q : GF) (w : Poly) : (divRow bt q w).length = w.length := by
  unfold divRow
  split
  · rfl
  · exact xorOnto_length _ w

theorem synthDiv_succ_cons (li : GF) (bt : Poly) (n : Nat) (c : GF) (w : Poly) : synthDiv li bt (n + 1) (c :: w) =
    (gmul c li :: (synthDiv li bt n (divRow bt (gmul c li) w)).1, (synthDiv li bt n (divRow bt (gmul c li) w)).2) := rfl

theorem coef_divRow {bt w : Poly} {n : Nat} (h : w.length = n + bt.length) (q : GF) (j : Nat) :
    coef (divRow bt q w) j = (if n ≤ j then gmul q (coef bt (j - n)) else 0) ^^^ coef w j := by
  unfold divRow
  split
  case isTrue hq => rw [hq, zero_gmul, ite_self, zero_xor]
  case isFalse => rw [coef_xorOnto (by rwa [List.length_map]), coef_map (zero_gmul q), gmul_comm q]

/-- The division splits its buffer into quotient times divisor and what is left: the row cancels the leading coefficient, and
what it takes from the others is the quotient cell's share of the product. -/
theorem coef_synthDiv {l li : GF} {bt : Poly} (hl : gmul li l = 1) {n : Nat} {w : Poly} (h : w.length = n + bt.length)
    (j : Nat) : coef w j = polyConv (coef (synthDiv li bt n w).1) (coef (l :: bt)) j ^^^ coef (synthDiv li bt n w).2 j := by
  induction n generalizing w with
  | zero => rw [synthDiv, polyConv_nil, zero_xor]
  | succ n ih =>
    obtain _ | ⟨c, w⟩ := w
    · rw [List.length_nil] at h
      omega
    have hlen : w.length = n + bt.length := by
      rw [List.length_cons] at h
      omega
    have hrow := (divRow_length bt (gmul c li) w).trans hlen
    have hquot : (synthDiv li bt n (divRow bt (gmul c li) w)).1.length = n := (synthDiv_length _ _ _ _ (by omega)).1
    rw [synthDiv_succ_cons, polyConv_cons, hquot, BitVec.xor_assoc, ← ih hrow, coef_divRow hlen, coef_cons, coef_cons]
    by_cases hj : n ≤ j
    · have hlead : gmul (gmul c li) (if j - n = bt.length then l else 0) = if j = w.length then c else 0 := by
        simp only [show j = w.length ↔ j - n = bt.length by omega]
        split
        · rw [gmul_assoc, hl, gmul_one]
        · exact gmul_zero _
      rw [if_pos hj, if_pos hj, gmul_xor, hlead, xor_cancel_middle]
    · rw [if_neg hj, if_neg hj, if_neg (by omega)]
      simp only [zero_xor]

/-- The division law (R158, R160). -/
theorem padd_pmul_pdivmod {a b : Poly} (ha : norm a = a) (hb : norm b = b) (hb0 : b ≠ [0]) :
    padd (pmul (pdivmod a b).1 b) (pdivmod a b).2 = a := by
  refine eq_of_coef (norm_padd ..) ha fun j => ?_
  rw [coef_padd, coef_pmul]
  obtain _ | ⟨l, bt⟩ := b
  · cases hb
  unfold pdivmod
  split
  case isTrue => rw [polyConv_eq_zero fun i _ => .inl (coef_zero_singleton i), zero_xor]
  case isFalse hlen =>
    rw [List.length_cons] at hlen
    have hl : gmul (ginv l) l = 1 := (gmul_comm ..).trans (gmul_ginv (head_ne_zero hb hb0))
    have hw : a.length = a.length - (bt.length + 1) + 1 + bt.length := by omega
    have hconv (q : Poly) : polyConv (coef (norm q)) (coef (l :: bt)) j = polyConv (coef q) (coef (l :: bt)) j := by
      simp only [polyConv, coef_norm]
    exact (congrArg₂ _ (hconv _) (coef_norm _ j)).trans (coef_synthDiv hl hw j).symm

/-- Both results of the division are normalised (R158). -/
theorem norm_pdivmod {a : Poly} (b : Poly) (ha : norm a = a) :
    norm (pdivmod a b).1 = (pdivmod a b).1 ∧ norm (pdivmod a b).2 = (pdivmod a b).2 := by
  unfold pdivmod
  split
  · exact ⟨rfl, ha⟩
  · exact ⟨norm_norm _, norm_norm _⟩

/-- The remainder is `[0]` or of lower degree than the divisor (R158). -/
theorem deg_pdivmod_lt {a b : Poly} (ha : 1 ≤ a.length) (hb : 1 ≤ b.length) :
    (pdivmod a b).2 = [0] ∨ deg (pdivmod a b).2 < deg b := by
  unfold pdivmod
  split
  case isTrue hlen => exact .inr (Nat.sub_lt_sub_right ha hlen)
  case isFalse hlen =>
    obtain ⟨-, hrest⟩ := synthDiv_length (ginv (b.headD 0)) b.tail (a.length - b.length + 1) a (by omega)
    generalize synthDiv (ginv (b.headD 0)) b.tail (a.length - b.length + 1) a = qr at hrest
    obtain ⟨q, r⟩ := qr
    dsimp only at hrest ⊢
    rcases hb.eq_or_lt with hone | htwo
    · exact .inl (congrArg norm (List.length_eq_zero_iff.1 (by omega) : r = []))
    · have hle := norm_length_le r
      have hpos := norm_length_pos r
      refine .inr ?_
      unfold deg
      omega

/-- Settles O55: evaluation is the sum of the powers, and the other laws hold coefficient by coefficient. -/
theorem polyLaws : Obligations.PolyLaws := by
  unfold Obligations.PolyLaws
  rintro a b v ⟨ha, -⟩ ⟨hb, -⟩
  exact ⟨ev_eq_gfSumTo v le_rfl, ev_pmul a b v, padd_pmul_pdivmod ha hb,
    eq_of_coef (norm_pmul ..) ha (coef_pmul_one a),
    eq_of_coef (norm_padd ..) rfl fun j => by rw [coef_padd, BitVec.xor_self, coef_zero_singleton]; rfl⟩

end Sys2Proof.Machine
end

section
/-! The field-polynomial commands (R165 to R179, R185), and the frame of the commands that write polynomial registers: each is
its checks in order, then the write of its destinations. -/

open Sys2Proof.Certificates

namespace Sys2Proof.Machine

/-! The frame of a command that writes polynomial registers (R165 to R207). -/

/-- The result `r` of the command `i` at `s` is a fault with no other effect, or the polynomial registers `i` names and, for
`RSGEN`, the cache are written and the command completes. -/
def PolyEnds (i : Instr) (s : State) (r : Result) : Prop :=
  (∃ c n, r = s.raise c n) ∨ ∃ p gen, r = State.complete { s with p := p, gen := gen } ∧
    (∀ k, k ∉ polyDests i → State.getP { s with p := p } k = s.getP k) ∧
    ((∀ pd xs1, i ≠ .rsgen pd xs1) → gen = s.gen)

namespace PolyEnds

variable {i : Instr} {s : State}

theorem raise (c : ErrCode) (n : Nat) : PolyEnds i s (s.raise c n) := .inl ⟨c, n, rfl⟩

theorem write {pd : PReg} (hdest : polyDests i = [pd]) (q : Poly) : PolyEnds i s (s.setP pd q).complete :=
  .inr ⟨_, _, rfl, fun k hk => s.getP_setP_ne pd k q (by simpa [hdest] using hk), fun _ => rfl⟩

theorem writeTwo {pq pr : PReg} (hdest : polyDests i = [pq, pr]) (q r : Poly) :
    PolyEnds i s ((s.setP pq q).setP pr r).complete := by
  refine .inr ⟨_, _, rfl, fun k hk => ?_, fun _ => rfl⟩
  simp only [hdest, List.mem_cons, List.not_mem_nil, or_false, not_or] at hk
  obtain ⟨hq, hr⟩ := hk
  exact ((s.setP pq q).getP_setP_ne pr k r hr).trans (s.getP_setP_ne pq k q hq)

theorem writeCache {pd : PReg} {xs1 : XReg} (q : Poly) (k : Nat) :
    PolyEnds (.rsgen pd xs1) s ((s.setP pd q).cacheGen k).complete :=
  .inr ⟨_, _, rfl, fun r hr => s.getP_setP_ne pd r q (by simpa [polyDests] using hr), fun h => absurd rfl (h pd xs1)⟩

/-- A check that raises a fault comes before the rest of the command. -/
theorem guard {p : Prop} [Decidable p] {c : ErrCode} {n : Nat} {r : Result} (h : PolyEnds i s r) :
    PolyEnds i s (if p then s.raise c n else r) := by
  split
  · exact raise c n
  · exact h

end PolyEnds

section
variable (s : State)

theorem execPld_polyEnds (pd : PReg) (xs1 xs2 : XReg) : PolyEnds (.pld pd xs1 xs2) s (execPld pd xs1 xs2 s) := by
  refine .guard (.guard ?_)
  split
  · exact .raise ..
  · exact .write rfl _

theorem execRssyn_polyEnds (pd : PReg) (xs1 xs2 xs3 : XReg) :
    PolyEnds (.rssyn pd xs1 xs2 xs3) s (execRssyn pd xs1 xs2 xs3 s) := by
  refine .guard (.guard (.guard ?_))
  split
  · exact .raise ..
  · exact .write rfl _

theorem execRskey_polyEnds (psigma ps1 : PReg) (xs2 : XReg) (pomega : PReg) :
    PolyEnds (.rskey psigma ps1 xs2 pomega) s (execRskey psigma ps1 xs2 pomega s) := by
  refine .guard (.guard (.guard ?_))
  split
  · exact .raise ..
  · exact .writeTwo rfl _ _

theorem exec_polyEnds {i : Instr} (h : polyDests i ≠ []) : PolyEnds i s (exec i s) := by
  cases i with
  | pzero | pone | padd => exact .write rfl _
  | pmuls | pmul => exact .guard (.write rfl _)
  | pmono => exact .guard (.guard (.write rfl _))
  | pdiv => exact .guard (.guard (.writeTwo rfl _ _))
  | rsgen => exact .guard (.writeCache _ _)
  | pld pd xs1 xs2 => exact execPld_polyEnds s pd xs1 xs2
  | rssyn pd xs1 xs2 xs3 => exact execRssyn_polyEnds s pd xs1 xs2 xs3
  | rskey psigma ps1 xs2 pomega => exact execRskey_polyEnds s psigma ps1 xs2 pomega
  | _ => exact absurd rfl h

end

/-- Settles O23: what the writes leave is read off `exec_polyEnds`, what every command leaves is `commandEnds` (O8). -/
theorem polyFrame : Obligations.PolyFrame := by
  unfold Obligations.PolyFrame
  intro i s t hdest hex
  have hi : i ≠ .halt := by
    rintro rfl
    exact hdest rfl
  obtain ⟨hfixed, hend⟩ := exec_fixed_endsAs hi hex
  rcases exec_polyEnds s hdest with ⟨c, n, hfault⟩ | ⟨p, gen, hwrite, hp, hgen⟩
  · cases hex.symm.trans hfault
    exact ⟨fun _ _ => rfl, rfl, hfixed, fun _ => rfl, sameImages_refl s, sameIntCsr_refl s, ⟨rfl, rfl, rfl⟩,
      fun _ => rfl, hend⟩
  · cases hex.symm.trans hwrite
    exact ⟨hp, rfl, hfixed, fun _ => rfl, sameImages_refl s, sameIntCsr_refl s, ⟨rfl, rfl, rfl⟩, hgen, hend⟩

/-! Checks the commands share. -/

/-- A normalised sequence is stored as it is (R24). -/
theorem State.setP_of_norm (s : State) (pd : PReg) {q : Poly} (h : norm q = q) :
    s.setP pd q = { s with p := s.p.set pd.val q } := by rw [State.setP, h]

theorem polyIsZero_iff {q : Poly} : polyIsZero q = true ↔ q = [0] := beq_iff_eq

/-- `PMUL`'s overflow check (R178). -/
theorem pmulCheck_iff {a b : Poly} {n : Nat} :
    (!polyIsZero a && !polyIsZero b && decide (Config.pmax < n)) = true ↔ (a ≠ [0] ∧ b ≠ [0]) ∧ Config.pmax < n := by
  simp only [Bool.and_eq_true, Bool.not_eq_true', ← Bool.not_eq_true, polyIsZero_iff, decide_eq_true_eq, ne_eq]

section
variable {α : Type} {a n : Nat} (fault rest : α)

theorem fits_iff : fits a n ↔ symFits a n = true := (symFits_iff a n).symm

theorem symCheck_of_not_fits (h : ¬ fits a n) : (if !symFits a n then fault else rest) = fault :=
  if_pos (by simpa [fits_iff] using h)

theorem symCheck_of_fits (h : fits a n) : (if !symFits a n then fault else rest) = rest :=
  if_neg (by simpa [fits_iff] using h)

end

section
variable {s : State} {a n : Nat}

theorem symBytes_map_byteGF (s : State) (a n : Nat) : (s.symBytes a n).map byteGF = symbols s a n := List.map_map

/-- The first byte of the range that is no field element is the one reported (R131). -/
theorem firstBad_of_firstBadAt {j : Nat} (h : firstBadAt s a n j) :
    firstBad (s.symBytes a n) = some (s.symByte (a + j)) := by
  obtain ⟨hj, hbefore, hbad⟩ := h
  refine List.find?_eq_some_iff_getElem.2 ⟨by simpa [isGF] using hbad, j, by simpa using hj,
    s.symBytes_getElem a n j _, fun i hi => ?_⟩
  rw [s.symBytes_getElem]
  simpa [isGF] using hbefore i hi

theorem firstBad_of_fieldBytes (h : fieldBytes s a n) : firstBad (s.symBytes a n) = none := by
  refine List.find?_eq_none.2 fun v hv => ?_
  obtain ⟨i, hi, rfl⟩ := List.getElem_of_mem hv
  rw [s.symBytes_getElem]
  simpa [isGF] using h i (by simpa using hi)

end

/-! The commands, each from the case of its operands. -/

section
variable {s : State} {xd xs1 xs2 : XReg} {pd ps1 ps2 pq pr : PReg}

theorem scalarGF_eq_zero (h : s.natX xs2 = 0) : scalarGF (s.getX xs2) = 0 := by
  rw [show s.getX xs2 = 0 from BitVec.eq_of_toNat_eq h]
  rfl

theorem execPmono_of_zero (h0 : s.natX xs2 = 0) : execPmono pd xs1 xs2 s = (s.setP pd [0]).complete := by
  refine ((gfCheck_of_le _ _ (by omega)).trans (if_neg fun h => h.1 h0)).trans ?_
  rw [scalarGF_eq_zero h0]
  rfl

theorem execPmono_of_overflow (hv : s.natX xs2 ≤ 63) (h0 : s.natX xs2 ≠ 0) (hd : Config.pmax ≤ s.natX xs1) :
    execPmono pd xs1 xs2 s = s.raise .overflow (s.natX xs1 + 1) :=
  (gfCheck_of_le _ _ hv).trans (if_pos ⟨h0, Nat.lt_succ_of_le hd⟩)

theorem execPmono_of_lt (hv : s.natX xs2 ≤ 63) (h0 : s.natX xs2 ≠ 0) (hd : s.natX xs1 < Config.pmax) :
    execPmono pd xs1 xs2 s = (s.setP pd (scalarGF (s.getX xs2) :: zeros (s.natX xs1))).complete := by
  refine ((gfCheck_of_le _ _ hv).trans (if_neg fun h => Nat.not_lt.2 hd h.2)).trans ?_
  rw [mono, if_neg (scalarGF_ne_zero hv h0)]

section
variable (hn : 1 ≤ s.natX xs2) (hmax : s.natX xs2 ≤ Config.pmax)
include hn hmax

theorem execPld_of_not_fits (hfit : ¬ fits (s.natX xs1) (s.natX xs2)) :
    execPld pd xs1 xs2 s = s.raise .addr (s.natX xs1) :=
  (if_neg (by omega)).trans (symCheck_of_not_fits _ _ hfit)

theorem execPld_of_firstBadAt (hfit : fits (s.natX xs1) (s.natX xs2)) {j : Nat}
    (hbad : firstBadAt s (s.natX xs1) (s.natX xs2) j) :
    execPld pd xs1 xs2 s = s.raise .range (s.symByte (s.natX xs1 + j)).toNat := by
  refine ((if_neg (by omega)).trans (symCheck_of_fits _ _ hfit)).trans ?_
  rw [firstBad_of_firstBadAt hbad]

theorem execPld_of_fieldBytes (hfit : fits (s.natX xs1) (s.natX xs2))
    (hbytes : fieldBytes s (s.natX xs1) (s.natX xs2)) :
    execPld pd xs1 xs2 s = (s.setP pd (symbols s (s.natX xs1) (s.natX xs2))).complete := by
  refine ((if_neg (by omega)).trans (symCheck_of_fits _ _ hfit)).trans ?_
  rw [firstBad_of_fieldBytes hbytes, symBytes_map_byteGF]

end

theorem execPst_of_fits (hfit : fits (s.natX xs1) (s.getP pd).length) :
    execPst pd xs1 s = (s.storeSym (s.natX xs1) ((s.getP pd).map gfByte)).complete := symCheck_of_fits _ _ hfit

theorem execPcidx_of_lt (h : s.natX xs2 < (s.getP ps1).length) :
    execPcidx xd ps1 xs2 s = (s.setX xd (gfScalar ((s.getP ps1).getD (s.natX xs2) 0))).complete := by
  rw [execPcidx, List.getElem?_eq_getElem h, List.getD_eq_getElem _ _ h]

theorem execPcidx_of_le (h : (s.getP ps1).length ≤ s.natX xs2) :
    execPcidx xd ps1 xs2 s = s.raise .range (s.natX xs2) := by
  rw [execPcidx, List.getElem?_eq_none h]

theorem execPisz_eq : execPisz xd ps1 s = (s.setX xd (if s.getP ps1 = [0] then 1 else 0)).complete := by
  simp only [execPisz, polyIsZero_iff]
  rfl

theorem execPeval_of_le (hv : s.natX xs2 ≤ 63) :
    execPeval xd ps1 xs2 s = (s.setX xd (gfScalar (ev (s.getP ps1) (scalarGF (s.getX xs2))))).complete :=
  gfCheck_of_le _ _ hv

theorem execPmuls_of_le (hv : s.natX xs2 ≤ 63) :
    execPmuls pd ps1 xs2 s = (s.setP pd (pmuls (s.getP ps1) (scalarGF (s.getX xs2)))).complete :=
  gfCheck_of_le _ _ hv

theorem execPmul_of_overflow (ha : s.getP ps1 ≠ [0]) (hb : s.getP ps2 ≠ [0])
    (hlen : Config.pmax < (s.getP ps1).length + (s.getP ps2).length - 1) :
    execPmul pd ps1 ps2 s = s.raise .overflow ((s.getP ps1).length + (s.getP ps2).length - 1) :=
  if_pos (pmulCheck_iff.2 ⟨⟨ha, hb⟩, hlen⟩)

theorem execPmul_of_fits
    (h : s.getP ps1 = [0] ∨ s.getP ps2 = [0] ∨ (s.getP ps1).length + (s.getP ps2).length - 1 ≤ Config.pmax) :
    execPmul pd ps1 ps2 s = (s.setP pd (pmul (s.getP ps1) (s.getP ps2))).complete :=
  if_neg fun hover => by
    obtain ⟨⟨ha, hb⟩, hlen⟩ := pmulCheck_iff.1 hover
    exact Nat.not_lt.2 ((h.resolve_left ha).resolve_left hb) hlen

theorem execPdiv_of_zero (hne : pq ≠ pr) (h0 : s.getP ps2 = [0]) : execPdiv pq ps1 ps2 pr s = s.raise .polyDivZero 0 :=
  (if_neg hne).trans (if_pos (polyIsZero_iff.2 h0))

theorem execPdiv_of_ne_zero (hne : pq ≠ pr) (h0 : s.getP ps2 ≠ [0]) : execPdiv pq ps1 ps2 pr s =
    ((s.setP pq (pdivmod (s.getP ps1) (s.getP ps2)).1).setP pr (pdivmod (s.getP ps1) (s.getP ps2)).2).complete :=
  (if_neg hne).trans (if_neg (mt polyIsZero_iff.1 h0))

end

/-- Settles O31: each clause is the case of the operands `PMONO`'s checks come to. -/
theorem polyConstants : Obligations.PolyConstants := by
  unfold Obligations.PolyConstants
  intro pd xs1 xs2 s
  exact ⟨decode_encode (.pzero pd), decode_encode (.pone pd), decode_encode (.pmono pd xs1 xs2), rfl, rfl,
    fun hv => gfCheck_of_lt _ _ hv, fun h0 => execPmono_of_zero h0, fun hv h0 hd => execPmono_of_overflow hv h0 hd,
    fun hv h0 hd => (execPmono_of_lt hv h0 hd).trans <|
      congrArg State.complete (s.setP_of_norm pd (norm_cons (scalarGF_ne_zero hv h0) _))⟩

/-- Settles O32: each clause is the case of the operands the checks come to. -/
theorem polyMemory : Obligations.PolyMemory := by
  unfold Obligations.PolyMemory
  intro pd xs1 xs2 s
  refine ⟨decode_encode (.pld pd xs1 xs2), decode_encode (.pst pd xs1), fun hn => if_pos hn,
    fun hn hmax haddr => execPld_of_not_fits hn hmax (by unfold fits; omega), fun hn hmax haddr =>
      ⟨fun j hbad => execPld_of_firstBadAt hn hmax (.inr haddr) hbad,
        fun hbytes => execPld_of_fieldBytes hn hmax (.inr haddr) hbytes⟩,
    fun hfit => symCheck_of_not_fits _ _ hfit, fun hfit => ⟨_, execPst_of_fits hfit, fun j hj => ?_, fun a ha => ?_, rfl⟩⟩
  · have hread := s.symByte_storeSym_inside (s.natX xs1) ((s.getP pd).map gfByte) j (by simpa using hj)
    rw [List.getElem_map, ← List.getD_eq_getElem _ 0 hj] at hread
    exact hread
  · exact s.symByte_storeSym_outside (s.natX xs1) ((s.getP pd).map gfByte) a (by simpa using ha)

/-- Settles O33: each clause is the case of the operands the checks come to; `PEVAL`'s Horner form is the power sum. -/
theorem polyReads : Obligations.PolyReads := by
  unfold Obligations.PolyReads
  intro xd ps1 ps2 xs2 s
  refine ⟨decode_encode (.pdeg xd ps1), decode_encode (.pcoef xd ps1 xs2), decode_encode (.pcidx xd ps1 xs2),
    decode_encode (.peq xd ps1 ps2), decode_encode (.pisz xd ps1), decode_encode (.peval xd ps1 xs2), rfl, rfl, execPisz_eq,
    fun hj => ?_, fun hj => ?_, fun hj => execPcidx_of_lt hj, fun hj => execPcidx_of_le hj,
    fun hv => gfCheck_of_lt _ _ hv, fun hv => (execPeval_of_le hv).trans ?_⟩
  · rw [← coef_of_lt hj]
    rfl
  · exact congrArg (fun c => (s.setX xd (gfScalar c)).complete) (coef_of_le hj)
  · rw [ev_eq_gfSumTo _ le_rfl]
    rfl

/-- A command that writes `q` writes a normalised sequence with the coefficients of `q` (R24). -/
theorem exists_norm_of_setP {s : State} {r : Result} {pd : PReg} {q : Poly} {c : Nat → GF}
    (hr : r = (s.setP pd q).complete) (hc : ∀ j, coef q j = c j) : ∃ q', r =
      .next { s with p := s.p.set pd.val q', cp := s.cp + 1#32 } ∧ norm q' = q' ∧ ∀ j, coef q' j = c j :=
  ⟨norm q, hr, norm_norm q, fun j => (coef_norm q j).trans (hc j)⟩

/-- Settles O34: the sequences written have the coefficients of the sum, the multiple and the product. -/
theorem polyArith : Obligations.PolyArith := by
  unfold Obligations.PolyArith
  intro pd ps1 ps2 xs2 s
  exact ⟨decode_encode (.padd pd ps1 ps2), decode_encode (.pmuls pd ps1 xs2), decode_encode (.pmul pd ps1 ps2),
    exists_norm_of_setP rfl (coef_padd _ _), fun hv => gfCheck_of_lt _ _ hv,
    fun hv => exists_norm_of_setP (execPmuls_of_le hv) (coef_pmuls _ _),
    fun ha hb hlen => execPmul_of_overflow ha hb hlen,
    fun h => exists_norm_of_setP (execPmul_of_fits h) (coef_pmul _ _)⟩

/-- Settles O35: each clause is the case of the operands the checks come to; the results are those of the division. -/
theorem pdivEffect : Obligations.PdivEffect := by
  unfold Obligations.PdivEffect
  intro pq ps1 ps2 pr s hs
  obtain ⟨ha, hpos1, -⟩ := hs ps1
  obtain ⟨hb, hpos2, -⟩ := hs ps2
  refine ⟨decode_encode (.pdiv pq ps1 ps2 pr), fun heq => if_pos heq, fun hne h0 => execPdiv_of_zero hne h0,
    fun hne h0 => ?_⟩
  obtain ⟨hq, hr⟩ := norm_pdivmod (s.getP ps2) ha
  refine ⟨(pdivmod (s.getP ps1) (s.getP ps2)).1, (pdivmod (s.getP ps1) (s.getP ps2)).2, ?_, rfl,
    padd_pmul_pdivmod ha hb h0, deg_pdivmod_lt hpos1 hpos2, hq, hr⟩
  refine (execPdiv_of_ne_zero hne h0).trans ?_
  rw [State.setP_of_norm _ pr hr, State.setP_of_norm s pq hq]
  rfl

end Sys2Proof.Machine
end

section
/-! The Reed-Solomon encoder (R190 to R196): a fresh codeword is the multiple of the generator that the division leaves, and
the two commands are their checks in order, then the write of the generator or of the codeword. -/

open Sys2Proof.Certificates

namespace Sys2Proof.Machine

/-! The generator (R191): its coefficient of `X^k` is 1, and it is 0 at the first `k` powers of alpha. -/

/-- A factor `X + c` shifts the coefficients and adds their multiples by `c`. -/
theorem coef_pmul_linear (q : Poly) (c : GF) (j : Nat) :
    coef (pmul q [1, c]) (j + 1) = coef q j ^^^ gmul (coef q (j + 1)) c := by
  have hlow : (gfSumTo j fun i => gmul (coef q i) (coef [1, c] (j + 1 - i))) = 0 :=
    gfSumTo_eq_zero fun i hi => by rw [coef_of_le (q := [1, c]) (by simp; omega), gmul_zero]
  have hlead : gmul (coef q j) (coef [1, c] (j + 1 - j)) = coef q j := by
    rw [Nat.add_sub_cancel_left]
    exact gmul_one _
  rw [coef_pmul, polyConv, gfSumTo_succ, gfSumTo_succ, hlow, zero_xor, hlead, Nat.sub_self]
  rfl

theorem coef_genPoly_self (k : Nat) : coef (genPoly k) k = 1 := by
  induction k with
  | zero => rfl
  | succ k ih => rw [genPoly, coef_pmul_linear, ih, coef_of_le (genPoly_length k).2, zero_gmul, xor_zero]

theorem lt_genPoly_length (k : Nat) : k < (genPoly k).length := by
  by_contra hle
  have hone := coef_genPoly_self k
  rw [coef_of_le (Nat.le_of_not_lt hle)] at hone
  exact absurd hone (by decide)

theorem genPoly_ne_zero (k : Nat) : genPoly k ≠ [0] := by
  intro h
  have hone := coef_genPoly_self k
  rw [h, coef_zero_singleton] at hone
  exact absurd hone (by decide)

theorem norm_genPoly : ∀ k, norm (genPoly k) = genPoly k
  | 0 => rfl
  | _ + 1 => norm_pmul ..

theorem ev_linear_root (v : GF) : ev [1, v] v = 0 := by
  rw [ev_cons, gmul_comm, gmul_one]
  revert v
  decide

theorem ev_genPoly_gexp {k i : Nat} (h : i < k) : ev (genPoly k) (gexp i) = 0 := by
  induction k with
  | zero => omega
  | succ k ih =>
    rw [genPoly, ev_pmul]
    rcases Nat.lt_succ_iff_lt_or_eq.1 h with hlt | rfl
    · rw [ih hlt, zero_gmul]
    · rw [ev_linear_root, gmul_zero]

/-! The codeword (R192, R195). -/

theorem zeros_append_zeros (n k : Nat) : zeros n ++ zeros k = zeros (n + k) := List.replicate_append_replicate

theorem norm_zeros (n : Nat) : norm (zeros n) = [0] := by
  rw [← List.append_nil (zeros n), norm_zeros_append]
  rfl

theorem padTo_zero {k : Nat} (h : k ≠ 0) : padTo k [0] = zeros k :=
  (zeros_append_zeros (k - 1) 1).trans (congrArg zeros (Nat.sub_add_cancel (Nat.pos_of_ne_zero h)))

/-- Cells behind a sequence shift its coefficients and are added at the end. -/
theorem coef_append (p q : Poly) (j : Nat) : coef (p ++ q) j = coef (p ++ zeros q.length) j ^^^ coef q j := by
  induction p with
  | nil => rw [List.nil_append, List.nil_append, ← List.append_nil (zeros _), coef_zeros_append, coef_nil, zero_xor]
  | cons c p ih =>
    rw [List.cons_append, List.cons_append, coef_cons, coef_cons, ih, BitVec.xor_assoc]
    simp only [List.length_append, zeros, List.length_replicate]

theorem pdivmod_of_lt {a b : Poly} (h : a.length < b.length) : pdivmod a b = ([0], a) := if_pos h

theorem prefix_rsenc (data : List GF) (k : Nat) : data <+: rsenc data k := by
  unfold rsenc
  split
  · exact List.prefix_rfl
  · exact List.prefix_append ..

/-- The codeword is the quotient times the generator: its parity is the remainder, and the division law says that quotient
times generator and remainder add up to the data with `k` zeros behind it. -/
theorem exists_pmul_genPoly_eq (data : List GF) (k : Nat) : ∃ q, pmul q (genPoly k) = norm (rsenc data k) := by
  rcases eq_or_ne k 0 with rfl | hk
  · refine ⟨data, eq_of_coef (norm_pmul ..) (norm_norm _) fun j => ?_⟩
    rw [coef_norm]
    exact coef_pmul_one data j
  obtain ⟨hpos, hle⟩ := genPoly_length k
  have hlaw := padd_pmul_pdivmod (norm_norm (data ++ zeros k)) (norm_genPoly k) (genPoly_ne_zero k)
  have hrest := (pdivmod_length (norm (data ++ zeros k)) (genPoly k) hpos).2
  rw [rsenc, if_neg hk]
  generalize pdivmod (norm (data ++ zeros k)) (genPoly k) = qr at hlaw hrest ⊢
  refine ⟨qr.1, eq_of_coef (norm_pmul ..) (norm_norm _) fun j => ?_⟩
  have hparity : (padTo k qr.2).length = k := length_padTo (by omega)
  have hsum : coef (data ++ zeros k) j = coef (pmul qr.1 (genPoly k)) j ^^^ coef qr.2 j := by
    rw [← coef_padd, hlaw, coef_norm]
  rw [coef_norm, coef_append, hparity, hsum, coef_padTo, BitVec.xor_assoc, BitVec.xor_self]
  exact (xor_zero _).symm

theorem ev_rsenc {data : List GF} {k i : Nat} (h : i < k) : ev (norm (rsenc data k)) (gexp i) = 0 := by
  obtain ⟨q, hq⟩ := exists_pmul_genPoly_eq data k
  rw [← hq, ev_pmul, ev_genPoly_gexp h, gmul_zero]

theorem rsenc_zeros (n k : Nat) : rsenc (zeros n) k = zeros (n + k) := by
  unfold rsenc
  split
  case isTrue h => rw [h]; rfl
  case isFalse h =>
    have hlen : [(0 : GF)].length < (genPoly k).length := by
      have := lt_genPoly_length k
      simp only [List.length_singleton]
      omega
    rw [zeros_append_zeros, norm_zeros, pdivmod_of_lt hlen, padTo_zero h, zeros_append_zeros]

/-- Settles O56: the codeword is a multiple of the generator, whose roots are the first `k` powers of alpha. -/
theorem codewordRoots : Obligations.CodewordRoots := by
  unfold Obligations.CodewordRoots
  intro data k _ _
  refine ⟨rsenc_length data k, (List.prefix_iff_eq_take.1 (prefix_rsenc data k)).symm, exists_pmul_genPoly_eq data k,
    fun i hi => ev_rsenc hi, fun hdata => ?_⟩
  rw [hdata, List.length_replicate]
  exact rsenc_zeros ..

/-! The commands, each from the case of its operands. -/

theorem State.lt_gcnt_cacheGen (s : State) (k : Nat) : k < (s.cacheGen k).gcnt := by
  simp only [State.gcnt, State.cacheGen, growGen, List.length_append, List.length_map, List.length_drop, List.length_range]
  omega

theorem gfByte_byteGF {v : Byte} (h : v.toNat ≤ 63) : gfByte (byteGF v) = v := by
  refine BitVec.eq_of_toNat_eq ?_
  simp only [gfByte, byteGF, BitVec.toNat_setWidth]
  omega

theorem symbols_length (s : State) (a n : Nat) : (symbols s a n).length = n := by simp [symbols]

theorem symbols_getD (s : State) (a : Nat) {n j : Nat} (h : j < n) :
    (symbols s a n).getD j 0 = byteGF (s.symByte (a + j)) := by
  simp [symbols, h]

theorem State.symByte_storeSym_gfByte (s : State) (a : Nat) {q : List GF} {j : Nat} (h : j < q.length) :
    (s.storeSym a (q.map gfByte)).symByte (a + j) = gfByte (q.getD j 0) := by
  rw [s.symByte_storeSym_inside a _ j (by simpa using h), List.getElem_map, List.getD_eq_getElem _ _ h]

/-- The data cells of the codeword are the symbols themselves. -/
theorem rsenc_getD_of_lt {data : List GF} {j : Nat} (k : Nat) (h : j < data.length) :
    (rsenc data k).getD j 0 = data.getD j 0 := by
  have hpre := prefix_rsenc data k
  rw [List.getD_eq_getElem _ _ h, List.getD_eq_getElem _ _ (h.trans_le hpre.length_le), hpre.getElem h]

theorem execRsgen_of_le {s : State} {pd : PReg} {xs1 : XReg} (h : s.natX xs1 ≤ Config.kmax) :
    execRsgen pd xs1 s = ((s.setP pd (genPoly (s.natX xs1))).cacheGen (s.natX xs1)).complete :=
  if_neg (Nat.not_lt.2 h)

/-- Settles O36: the generator is normalised, so it is written as it is, and the cache is grown past its number. -/
theorem rsgenEffect : Obligations.RsgenEffect := by
  unfold Obligations.RsgenEffect
  intro pd xs1 s
  refine ⟨decode_encode (.rsgen pd xs1), fun hk => if_pos hk, fun hk => ⟨_, execRsgen_of_le hk, ?_,
    State.lt_gcnt_cacheGen ..⟩⟩
  rw [State.setP_of_norm s pd (norm_genPoly _)]
  rfl

section
variable {s : State} {xs0 xs1 xs2 xs3 : XReg} (hn : s.natX xs2 ≠ 0) (hk : s.natX xs3 ≤ Config.kmax)
include hn hk

theorem execRsenc_of_too_long (hlen : Config.pmax < s.natX xs2 + s.natX xs3) :
    execRsenc xs0 xs1 xs2 xs3 s = s.raise .range (s.natX xs2 + s.natX xs3) :=
  (if_neg hn).trans ((if_neg (Nat.not_lt.2 hk)).trans (if_pos hlen))

variable (hlen : s.natX xs2 + s.natX xs3 ≤ Config.pmax)
include hlen

/-- The counts pass their checks, and the command goes on (R194). -/
theorem rsencCounts_of_le (r : Result) :
    (if s.natX xs2 = 0 then s.raise .range 0
      else if Config.kmax < s.natX xs3 then s.raise .range (s.natX xs3)
      else if Config.pmax < s.natX xs2 + s.natX xs3 then s.raise .range (s.natX xs2 + s.natX xs3) else r) = r :=
  (if_neg hn).trans ((if_neg (Nat.not_lt.2 hk)).trans (if_neg (Nat.not_lt.2 hlen)))

theorem execRsenc_of_not_fits_source (hsrc : ¬ fits (s.natX xs1) (s.natX xs2)) :
    execRsenc xs0 xs1 xs2 xs3 s = s.raise .addr (s.natX xs1) :=
  (rsencCounts_of_le hn hk hlen _).trans (symCheck_of_not_fits _ _ hsrc)

variable (hsrc : fits (s.natX xs1) (s.natX xs2))
include hsrc

theorem execRsenc_of_not_fits_dest (hdst : ¬ fits (s.natX xs0) (s.natX xs2 + s.natX xs3)) :
    execRsenc xs0 xs1 xs2 xs3 s = s.raise .addr (s.natX xs0) :=
  (rsencCounts_of_le hn hk hlen _).trans ((symCheck_of_fits _ _ hsrc).trans (symCheck_of_not_fits _ _ hdst))

variable (hdst : fits (s.natX xs0) (s.natX xs2 + s.natX xs3))
include hdst

theorem execRsenc_of_firstBadAt {j : Nat} (hbad : firstBadAt s (s.natX xs1) (s.natX xs2) j) :
    execRsenc xs0 xs1 xs2 xs3 s = s.raise .range (s.symByte (s.natX xs1 + j)).toNat := by
  refine ((rsencCounts_of_le hn hk hlen _).trans
    ((symCheck_of_fits _ _ hsrc).trans (symCheck_of_fits _ _ hdst))).trans ?_
  rw [firstBad_of_firstBadAt hbad]

theorem execRsenc_of_fieldBytes (hbytes : fieldBytes s (s.natX xs1) (s.natX xs2)) :
    execRsenc xs0 xs1 xs2 xs3 s =
      ((s.storeSym (s.natX xs0) ((rsenc (symbols s (s.natX xs1) (s.natX xs2)) (s.natX xs3)).map gfByte)).cacheGen
        (s.natX xs3)).complete := by
  refine ((rsencCounts_of_le hn hk hlen _).trans
    ((symCheck_of_fits _ _ hsrc).trans (symCheck_of_fits _ _ hdst))).trans ?_
  rw [firstBad_of_fieldBytes hbytes, symBytes_map_byteGF]

end

/-- Settles O37: each clause is the case of the operands the checks come to. The symbols are read before the store, so the
ranges may overlap; the data cells of the codeword are the source's own bytes. -/
theorem rsencEffect : Obligations.RsencEffect := by
  unfold Obligations.RsencEffect
  intro xs0 xs1 xs2 xs3 s dst src n k i
  refine ⟨decode_encode i, fun hn => if_pos hn, fun hn hk => (if_neg hn).trans (if_pos hk),
    fun hn hk hlen => execRsenc_of_too_long hn hk hlen,
    fun hn hk hlen hsrc => execRsenc_of_not_fits_source hn hk hlen hsrc,
    fun hn hk hlen hsrc hdst => execRsenc_of_not_fits_dest hn hk hlen hsrc hdst,
    fun hn hk hlen hsrc hdst => ⟨fun j hbad => execRsenc_of_firstBadAt hn hk hlen hsrc hdst hbad, fun hbytes => ?_⟩⟩
  have hdata : (symbols s src n).length = n := symbols_length ..
  have hcode : (rsenc (symbols s src n) k).length = n + k := by rw [rsenc_length, hdata]
  have hread {j : Nat} (hj : j < n + k) := s.symByte_storeSym_gfByte dst (hj.trans_eq hcode.symm)
  refine ⟨_, execRsenc_of_fieldBytes hn hk hlen hsrc hdst hbytes, fun j hj => ?_, fun j hj => hread hj, fun a ha => ?_, rfl⟩
  · refine (hread (Nat.lt_add_right k hj)).trans ?_
    rw [rsenc_getD_of_lt k (hj.trans_eq hdata.symm), symbols_getD s src hj, gfByte_byteGF (hbytes j hj)]
  · exact s.symByte_storeSym_outside dst _ a (by rwa [List.length_map, hcode])

end Sys2Proof.Machine
end

section
/-! The key equation (R205 to R208). Each round of the Euclidean loop keeps its two rows congruent to multiples of the syndromes
modulo `X^k` and their lengths bounded; that the newer multiplier times the older remainder has the coefficient 1 at `X^k`
keeps the multiplier from being zero. -/

open Sys2Proof.Certificates

namespace Sys2Proof.Machine

/-! The laws of the convolution (R157). -/

theorem gfSumTo_one (f : Nat → GF) : gfSumTo 1 f = f 0 := zero_xor _

theorem gfSumTo_reflect (n : Nat) (f : Nat → GF) : gfSumTo n f = gfSumTo n fun i => f (n - 1 - i) := by
  induction n with
  | zero => rfl
  | succ n ih =>
    rw [gfSumTo_succ, ih, Nat.add_comm n 1, gfSumTo_add, gfSumTo_one, Nat.add_sub_cancel_left, Nat.sub_zero, BitVec.xor_comm]
    simp only [Nat.sub_sub]

theorem polyConv_comm (f g : Nat → GF) (j : Nat) : polyConv f g j = polyConv g f j := by
  rw [polyConv, gfSumTo_reflect]
  refine gfSumTo_congr fun i hi => ?_
  rw [Nat.add_sub_cancel, Nat.sub_sub_self (Nat.le_of_lt_succ hi), gmul_comm]

theorem polyConv_congr {f g g' : Nat → GF} {j : Nat} (h : ∀ i, i ≤ j → g i = g' i) : polyConv f g j = polyConv f g' j :=
  gfSumTo_congr fun i _ => by rw [h (j - i) (Nat.sub_le j i)]

theorem polyConv_xor (f g h : Nat → GF) (j : Nat) :
    polyConv f (fun i => g i ^^^ h i) j = polyConv f g j ^^^ polyConv f h j := by
  simp only [polyConv, gmul_xor, gfSumTo_xor]

theorem xor_polyConv (f g h : Nat → GF) (j : Nat) :
    polyConv (fun i => f i ^^^ g i) h j = polyConv f h j ^^^ polyConv g h j := by
  simp only [polyConv, xor_gmul, gfSumTo_xor]

theorem polyConv_gmul (f g : Nat → GF) (v : GF) (j : Nat) :
    polyConv (fun i => gmul (f i) v) g j = gmul (polyConv f g j) v := by
  rw [gmul_comm, polyConv, polyConv, gmul_gfSumTo]
  exact gfSumTo_congr fun i _ => by rw [gmul_comm (f i), gmul_assoc]

/-- A multiple of `f` moved up by `n` coefficients moves the convolution up with it. -/
theorem polyConv_shift (n : Nat) (c : GF) (f g : Nat → GF) (j : Nat) :
    polyConv (fun i => if n ≤ i then gmul c (f (i - n)) else 0) g j =
      if n ≤ j then gmul c (polyConv f g (j - n)) else 0 := by
  split
  case isTrue h =>
    obtain ⟨m, rfl⟩ := Nat.exists_eq_add_of_le h
    have hlow : (gfSumTo n fun i => gmul (if n ≤ i then gmul c (f (i - n)) else 0) (g (n + m - i))) = 0 :=
      gfSumTo_eq_zero fun i hi => by rw [if_neg (Nat.not_le.2 hi), zero_gmul]
    rw [polyConv, Nat.add_assoc, gfSumTo_add, hlow, zero_xor, Nat.add_sub_cancel_left, polyConv, gmul_gfSumTo]
    refine gfSumTo_congr fun i _ => ?_
    rw [if_pos (Nat.le_add_right n i), Nat.add_sub_cancel_left, Nat.add_sub_add_left, gmul_assoc]
  case isFalse h => exact polyConv_eq_zero fun i hi => .inl (if_neg (by omega))

theorem polyConv_assoc (a : Poly) (g h : Nat → GF) (j : Nat) :
    polyConv (polyConv (coef a) g) h j = polyConv (coef a) (polyConv g h) j := by
  induction a with
  | nil =>
    rw [polyConv_nil]
    exact polyConv_eq_zero fun i _ => .inl (polyConv_nil g i)
  | cons c a ih =>
    rw [polyConv_cons, ← ih, ← polyConv_shift, ← xor_polyConv]
    exact congrArg (polyConv · h j) (funext (polyConv_cons c a g))

theorem polyConv_left_comm (a b : Poly) (g : Nat → GF) (j : Nat) :
    polyConv (coef a) (polyConv (coef b) g) j = polyConv (coef b) (polyConv (coef a) g) j := by
  rw [← polyConv_assoc, ← polyConv_assoc, funext (polyConv_comm (coef a) (coef b))]

theorem polyConv_one (g : Nat → GF) (j : Nat) : polyConv (coef [1]) g j = g j := by
  rw [polyConv_cons, polyConv_nil, xor_zero, List.length_nil, if_pos (Nat.zero_le j), gmul_comm]
  exact gmul_one _

theorem polyConv_zero (g : Nat → GF) (j : Nat) : polyConv (coef [0]) g j = 0 :=
  polyConv_eq_zero fun i _ => .inl (coef_zero_singleton i)

theorem coef_mono_one (k j : Nat) : coef (mono k 1) j = if j = k then 1 else 0 := by
  have hzeros : coef (zeros k) j = 0 := by rw [← List.append_nil (zeros k), coef_zeros_append, coef_nil]
  rw [mono, if_neg (by decide), coef_cons, hzeros, xor_zero, zeros, List.length_replicate]

theorem length_pos_of_norm {q : Poly} (h : norm q = q) : 1 ≤ q.length := h ▸ norm_length_pos q

/-! The loop (R206). -/

/-- What holds of the loop's two rows before each round: `r2` and `r1` are the remainders, `a2` and `a1` the multipliers of the
syndromes `sp`. -/
structure KeyInv (sp : Poly) (k : Nat) (r2 r1 a2 a1 : Poly) : Prop where
  norm_r2 : norm r2 = r2
  norm_r1 : norm r1 = r1
  norm_a2 : norm a2 = a2
  norm_a1 : norm a1 = a1
  shorter : r1.length < r2.length
  half : k ≤ 2 * deg r2
  length_new : a1.length + r2.length ≤ k + 2
  length_old : a2.length + r1.length ≤ k + 1
  congr_r2 : ∀ j, j < k → polyConv (coef a2) (coef sp) j = coef r2 j
  congr_r1 : ∀ j, j < k → polyConv (coef a1) (coef sp) j = coef r1 j
  bezout : polyConv (coef a1) (coef r2) k = 1

/-- The multiplier of the next row, applied. -/
theorem polyConv_padd_pmul (a2 q a1 : Poly) (g : Nat → GF) (j : Nat) : polyConv (coef (padd a2 (pmul q a1))) g j =
    polyConv (coef a2) g j ^^^ polyConv (coef q) (polyConv (coef a1) g) j := by
  rw [← polyConv_assoc, ← xor_polyConv]
  refine congrArg (polyConv · g j) (funext fun i => ?_)
  rw [coef_padd, coef_pmul]

/-- The division law, coefficient by coefficient (R158). -/
theorem polyConv_pdivmod {a b : Poly} (ha : norm a = a) (hb : norm b = b) (hb0 : b ≠ [0]) (j : Nat) :
    polyConv (coef (pdivmod a b).1) (coef b) j = coef a j ^^^ coef (pdivmod a b).2 j := by
  have hlaw := coef_padd (pmul (pdivmod a b).1 b) (pdivmod a b).2 j
  rw [padd_pmul_pdivmod ha hb hb0, coef_pmul] at hlaw
  rw [hlaw, BitVec.xor_assoc, BitVec.xor_self]
  exact (xor_zero _).symm

namespace KeyInv

variable {sp r2 r1 a2 a1 : Poly} {k : Nat}

theorem init (hnorm : norm sp = sp) (hk : 1 ≤ k) (hdeg : deg sp < k) : KeyInv sp k (mono k 1) sp [0] [1] := by
  have hlen : (mono k 1).length = k + 1 := by rw [mono_length, if_neg (by decide)]
  have hpos := length_pos_of_norm hnorm
  unfold deg at hdeg
  exact {
    norm_r2 := norm_cons (by decide) (zeros k)
    norm_r1 := hnorm
    norm_a2 := rfl
    norm_a1 := rfl
    shorter := by omega
    half := by unfold deg; omega
    length_new := by rw [List.length_singleton]; omega
    length_old := by rw [List.length_singleton]; omega
    congr_r2 := fun j hj => by rw [polyConv_zero, coef_mono_one, if_neg hj.ne]
    congr_r1 := fun j _ => polyConv_one (coef sp) j
    bezout := by rw [polyConv_one, coef_mono_one, if_pos rfl] }

theorem round (h : KeyInv sp k r2 r1 a2 a1) (hk : 1 ≤ k) (hloop : k ≤ 2 * deg r1) :
    KeyInv sp k r1 (pdivmod r2 r1).2 a1 (padd a2 (pmul (pdivmod r2 r1).1 a1)) := by
  have htwo : 2 ≤ r1.length := by unfold deg at hloop; omega
  have hne : r1 ≠ [0] := by rintro rfl; simp at htwo
  have hdiv := polyConv_pdivmod h.norm_r2 h.norm_r1 hne
  obtain ⟨hq, hr⟩ := pdivmod_length r2 r1 (Nat.le_of_succ_le htwo)
  obtain ⟨hnormq, hnormr⟩ := norm_pdivmod r1 h.norm_r2
  generalize pdivmod r2 r1 = qr at hdiv hq hr hnormq hnormr ⊢
  obtain ⟨q, r⟩ := qr
  have hmul := pmul_length q a1 (length_pos_of_norm hnormq) (length_pos_of_norm h.norm_a1)
  have hadd := padd_length a2 (pmul q a1) (length_pos_of_norm h.norm_a2)
  have hshorter := h.shorter
  have hnew := h.length_new
  have hold := h.length_old
  dsimp only at hdiv hq hr hnormr ⊢
  have hnext : a1.length + r.length ≤ k + 1 := by omega
  exact {
    norm_r2 := h.norm_r1
    norm_r1 := hnormr
    norm_a2 := h.norm_a1
    norm_a1 := norm_padd ..
    shorter := by omega
    half := hloop
    length_new := by omega
    length_old := hnext
    congr_r2 := h.congr_r1
    congr_r1 := fun j hj => by
      rw [polyConv_padd_pmul, h.congr_r2 j hj, polyConv_congr fun i hi => h.congr_r1 i (hi.trans_lt hj), hdiv,
        ← BitVec.xor_assoc, BitVec.xor_self]
      exact zero_xor _
    bezout := by
      rw [polyConv_padd_pmul, polyConv_left_comm, funext hdiv, polyConv_xor, h.bezout, polyConv_coef_of_le hold,
        polyConv_coef_of_le hnext]
      rfl }

theorem a1_ne_zero (h : KeyInv sp k r2 r1 a2 a1) : a1 ≠ [0] := by
  rintro rfl
  have hone := h.bezout
  rw [polyConv_zero] at hone
  exact absurd hone (by decide)

/-- Where the loop stops the newer row solves the key equation. -/
theorem stop_solves (h : KeyInv sp k r2 r1 a2 a1) (hstop : 2 * deg r1 < k) : solvesKey sp k a1 r1 := by
  have hhalf := h.half
  have hnew := h.length_new
  refine ⟨fun j hj => (coef_pmul a1 sp j).trans (h.congr_r1 j hj), ?_, hstop⟩
  unfold deg at hhalf ⊢
  omega

/-- The remainders get shorter, so the loop stops before its bound on the rounds. -/
theorem keyLoop_solves {fuel : Nat} (h : KeyInv sp k r2 r1 a2 a1) (hk : 1 ≤ k) (hfuel : deg r1 < fuel) :
    let rows := keyLoop k fuel r2 r1 a2 a1
    norm rows.2 = rows.2 ∧ rows.2 ≠ [0] ∧ solvesKey sp k rows.2 rows.1 := by
  induction fuel generalizing r2 r1 a2 a1 with
  | zero => omega
  | succ fuel ih =>
    unfold keyLoop
    split
    case isTrue hloop =>
      have hnext := h.round hk hloop
      refine ih hnext ?_
      have hshorter := hnext.shorter
      unfold deg at hloop hfuel ⊢
      omega
    case isFalse hstop => exact ⟨h.norm_a1, h.a1_ne_zero, h.stop_solves (Nat.lt_of_not_le hstop)⟩

end KeyInv

/-! The two results (R205, R208). -/

/-- The remainder and the multiplier the loop ends with (R206). -/
def keyRows (sp : Poly) (k : Nat) : Poly × Poly := keyLoop k (k + 1) (mono k 1) sp [0] [1]

theorem key_eq (sp : Poly) (k : Nat) : key sp k =
    if coef (keyRows sp k).2 0 = 0 then .error .keyEquation
    else .ok (pmuls (keyRows sp k).2 (ginv (coef (keyRows sp k).2 0)),
      pmuls (keyRows sp k).1 (ginv (coef (keyRows sp k).2 0))) := rfl

theorem keyRows_solve {sp : Poly} {k : Nat} (hsp : norm sp = sp) (hk : 1 ≤ k) (hdeg : deg sp < k) :
    norm (keyRows sp k).2 = (keyRows sp k).2 ∧ (keyRows sp k).2 ≠ [0] ∧
      solvesKey sp k (keyRows sp k).2 (keyRows sp k).1 :=
  (KeyInv.init hsp hk hdeg).keyLoop_solves hk (Nat.lt_succ_of_lt hdeg)

theorem key_eq_error {sp : Poly} {k : Nat} {f : RsFail} (h : key sp k = .error f) :
    f = .keyEquation ∧ coef (keyRows sp k).2 0 = 0 := by
  rw [key_eq] at h
  split at h
  case isTrue hc => cases h; exact ⟨rfl, hc⟩
  case isFalse => cases h

/-- The results are the rows times the inverse of the multiplier's constant term. -/
theorem key_eq_ok {sp sigma omega : Poly} {k : Nat} (h : key sp k = .ok (sigma, omega)) :
    ∃ v, gmul (coef (keyRows sp k).2 0) v = 1 ∧ sigma = pmuls (keyRows sp k).2 v ∧ omega = pmuls (keyRows sp k).1 v := by
  rw [key_eq] at h
  split at h
  case isTrue => cases h
  case isFalse hc => cases h; exact ⟨_, gmul_ginv hc, rfl, rfl⟩

theorem norm_pmuls (q : Poly) (v : GF) : norm (pmuls q v) = pmuls q v := norm_norm _

theorem deg_pmuls_le (q : Poly) (v : GF) : deg (pmuls q v) ≤ deg q := by
  have hlen := norm_length_le (q.map fun c => gmul c v)
  rw [List.length_map] at hlen
  unfold deg pmuls
  omega

/-- A multiple of a solution is a solution. -/
theorem solvesKey_pmuls {sp a r : Poly} {k : Nat} (h : solvesKey sp k a r) (v : GF) :
    solvesKey sp k (pmuls a v) (pmuls r v) := by
  obtain ⟨hcongr, ha, hr⟩ := h
  have hdega := deg_pmuls_le a v
  have hdegr := deg_pmuls_le r v
  refine ⟨fun j hj => ?_, by omega, by omega⟩
  rw [coef_pmul, funext (coef_pmuls a v), polyConv_gmul, ← coef_pmul, hcongr j hj, coef_pmuls]

end Sys2Proof.Machine
end

section
/-! The Reed-Solomon decoder (R200 to R219): what each step answers, and the five commands, each its checks in order, then the
write of its results. -/

open Sys2Proof.Certificates

namespace Sys2Proof.Machine

/-! The syndromes (R202, R203). -/

theorem synPoint_of_le {i : Nat} (h : i ≤ 63) : synPoint i = gexp i := if_pos h

theorem coef_syn (cw : List GF) {k : Nat} (hk : k ≤ 63) (j : Nat) :
    coef (syn cw k) j = if j < k then ev (norm cw) (gexp j) else 0 := by
  rw [syn, coef_norm, coef, List.reverse_reverse]
  split
  case isTrue hj => simp [hj, synPoint_of_le (show j ≤ 63 by omega)]
  case isFalse hj => simp [hj]

theorem norm_syn (cw : List GF) (k : Nat) : norm (syn cw k) = syn cw k := norm_norm _

theorem syn_eq_zero {cw : List GF} {k : Nat} (hk : k ≤ 63) (h : ∀ i, i < k → ev (norm cw) (gexp i) = 0) :
    syn cw k = [0] := by
  refine eq_of_coef (norm_syn cw k) rfl fun j => ?_
  rw [coef_syn cw hk, coef_zero_singleton]
  split
  case isTrue hj => exact h j hj
  case isFalse => rfl

/-! The located elements (R209, R211). -/

/-- The inverses of the roots of `sigma`, in ascending order of the root (R209). -/
def rootLocators (sigma : Poly) : List GF :=
  ((List.range 63).filter fun b => ev sigma (BitVec.ofNat 6 (b + 1)) = 0).map fun b => ginv (BitVec.ofNat 6 (b + 1))

theorem roots_eq (sigma : Poly) : roots sigma =
    if (rootLocators sigma).length = deg sigma then .ok (rootLocators sigma) else .error .rootCount := by
  have hlist : (betas.filter fun b => ev sigma b == 0).map ginv = rootLocators sigma := by
    rw [betas, List.filter_map, List.map_map]
    rfl
  rw [← hlist]
  rfl

/-! A constant syndrome (R219 (a)). -/

theorem rsdec_of_syn_zero {cw : List GF} {k : Nat} (h : syn cw k = [0]) : rsdec cw k = .ok (cw, 0) := if_pos h

theorem rsdec_of_roots {cw xl : List GF} {k : Nat} {sigma omega : Poly} (hsyn : syn cw k ≠ [0])
    (hkey : key (syn cw k) k = .ok (sigma, omega)) (hroots : roots sigma = .ok xl) : rsdec cw k =
      if xl.any fun v => decide (cw.length - 1 < locLog v) then .error .location
      else .ok (applyErrors cw xl (mags omega xl), xl.length) := by
  simp only [rsdec, if_neg hsyn, hkey, hroots]

/-- The loop stops at once: the locator is 1. -/
theorem key_const (c : GF) {k : Nat} (hk : 1 ≤ k) : key [c] k = .ok ([1], [c]) := by
  have hrows : keyRows [c] k = ([c], [1]) := if_neg (Nat.not_le.2 hk)
  rw [key_eq, hrows]
  exact congrArg (fun d => Except.ok ([1], [d])) (gmul_one c)

theorem roots_one : roots [1] = .ok [] := by decide

theorem rsdec_of_syn_const {cw : List GF} {k : Nat} {c : GF} (hk : 1 ≤ k) (hc : c ≠ 0) (h : syn cw k = [c]) :
    rsdec cw k = .ok (cw, 0) :=
  rsdec_of_roots (by simpa [h] using hc) (h ▸ key_const c hk) roots_one

/-- Settles O57: a codeword is 0 at every syndrome's point; a constant syndrome has the locator 1, which has no roots. -/
theorem cleanWords : Obligations.CleanWords := by
  unfold Obligations.CleanWords
  have hcode (data : List GF) {k : Nat} (hk : k ≤ 63) : syn (rsenc data k) k = [0] :=
    syn_eq_zero hk fun i hi => ev_rsenc hi
  exact ⟨fun cw k h => rsdec_of_syn_zero h, fun data k _ hk => ⟨hcode data hk, rsdec_of_syn_zero (hcode data hk)⟩,
    fun cw k c hk hc h => rsdec_of_syn_const hk hc h⟩

/-! `RSSYN` (R204); `RSDEC` begins with the same checks of the counts (R218). -/

section
variable {s : State} {pd : PReg} {xs1 xs2 xs3 : XReg} (hn : 1 ≤ s.natX xs2) (hmax : s.natX xs2 ≤ Config.pmax)
include hn hmax

theorem rsCounts_of_lt (r : Result) (hk : Config.kmax < s.natX xs3) :
    (if s.natX xs2 = 0 ∨ Config.pmax < s.natX xs2 then s.raise .range (s.natX xs2)
      else if Config.kmax < s.natX xs3 then s.raise .range (s.natX xs3) else r) = s.raise .range (s.natX xs3) :=
  (if_neg (by omega)).trans (if_pos hk)

variable (hk : s.natX xs3 ≤ Config.kmax)
include hk

theorem rsCounts_of_le (r : Result) :
    (if s.natX xs2 = 0 ∨ Config.pmax < s.natX xs2 then s.raise .range (s.natX xs2)
      else if Config.kmax < s.natX xs3 then s.raise .range (s.natX xs3) else r) = r :=
  (if_neg (by omega)).trans (if_neg (Nat.not_lt.2 hk))

theorem execRssyn_of_not_fits (hsrc : ¬ fits (s.natX xs1) (s.natX xs2)) :
    execRssyn pd xs1 xs2 xs3 s = s.raise .addr (s.natX xs1) :=
  (rsCounts_of_le hn hmax hk _).trans (symCheck_of_not_fits _ _ hsrc)

variable (hsrc : fits (s.natX xs1) (s.natX xs2))
include hsrc

theorem execRssyn_of_firstBadAt {j : Nat} (hbad : firstBadAt s (s.natX xs1) (s.natX xs2) j) :
    execRssyn pd xs1 xs2 xs3 s = s.raise .range (s.symByte (s.natX xs1 + j)).toNat := by
  refine ((rsCounts_of_le hn hmax hk _).trans (symCheck_of_fits _ _ hsrc)).trans ?_
  rw [firstBad_of_firstBadAt hbad]

theorem execRssyn_of_fieldBytes (hbytes : fieldBytes s (s.natX xs1) (s.natX xs2)) :
    execRssyn pd xs1 xs2 xs3 s =
      (s.setP pd (syn (symbols s (s.natX xs1) (s.natX xs2)) (s.natX xs3))).complete := by
  refine ((rsCounts_of_le hn hmax hk _).trans (symCheck_of_fits _ _ hsrc)).trans ?_
  rw [firstBad_of_fieldBytes hbytes, symBytes_map_byteGF]

end

/-- Settles O38: each clause is the case of the operands the checks come to; the syndromes are the values at the powers of
alpha (`coef_syn`). -/
theorem rssynEffect : Obligations.RssynEffect := by
  unfold Obligations.RssynEffect
  intro pd xs1 xs2 xs3 s src n k i
  refine ⟨decode_encode i, fun hn => if_pos hn, fun hn hmax hk => rsCounts_of_lt hn hmax _ hk,
    fun hn hmax hk hsrc => execRssyn_of_not_fits hn hmax hk hsrc, fun hn hmax hk hsrc =>
      ⟨fun j hbad => execRssyn_of_firstBadAt hn hmax hk hsrc hbad,
        fun hbytes => ⟨_, execRssyn_of_fieldBytes hn hmax hk hsrc hbytes, ?_⟩⟩⟩
  have hread : (s.setP pd (syn (symbols s src n) k)).completed.getP pd = syn (symbols s src n) k :=
    (s.getP_setP_same pd _).trans (norm_syn ..)
  rw [hread]
  refine ⟨norm_syn .., coef_syn _ hk, ?_⟩
  rw [State.setP_of_norm s pd (norm_syn ..)]
  rfl

/-! `RSKEY` (R207, R208). -/

section
variable {s : State} {psigma ps1 pomega : PReg} {xs2 : XReg} (hne : psigma ≠ pomega)
include hne

theorem execRskey_of_range (hk : s.natX xs2 = 0 ∨ Config.kmax < s.natX xs2) :
    execRskey psigma ps1 xs2 pomega s = s.raise .range (s.natX xs2) :=
  (if_neg hne).trans (if_pos hk)

variable (hk : 1 ≤ s.natX xs2) (hmax : s.natX xs2 ≤ Config.kmax)
include hk hmax

theorem execRskey_of_deg (hdeg : s.natX xs2 ≤ deg (s.getP ps1)) :
    execRskey psigma ps1 xs2 pomega s = s.raise .range (deg (s.getP ps1)) :=
  (if_neg hne).trans ((if_neg (by omega)).trans (if_pos hdeg))

variable (hdeg : deg (s.getP ps1) < s.natX xs2)
include hdeg

theorem execRskey_of_error {f : RsFail} (h : key (s.getP ps1) (s.natX xs2) = .error f) :
    execRskey psigma ps1 xs2 pomega s = s.raise .rsFail (rsFailNumber f) := by
  refine ((if_neg hne).trans ((if_neg (by omega)).trans (if_neg (Nat.not_le.2 hdeg)))).trans ?_
  rw [h]

theorem execRskey_of_ok {sigma omega : Poly} (h : key (s.getP ps1) (s.natX xs2) = .ok (sigma, omega)) :
    execRskey psigma ps1 xs2 pomega s = ((s.setP psigma sigma).setP pomega omega).complete := by
  refine ((if_neg hne).trans ((if_neg (by omega)).trans (if_neg (Nat.not_le.2 hdeg)))).trans ?_
  rw [h]

end

/-- Settles O39: the loop's last rows solve the key equation (`keyRows_solve`), and so do their multiples by the inverse of the
locator's constant term; where that term is 0 the rows are the failing solution. -/
theorem rskeyEffect : Obligations.RskeyEffect := by
  unfold Obligations.RskeyEffect
  intro psigma ps1 xs2 pomega s k sp i
  refine ⟨decode_encode i, fun heq => if_pos heq, fun hne hk => execRskey_of_range hne hk,
    fun hne hk hmax hdeg => execRskey_of_deg hne hk hmax hdeg, fun hne hk hmax hdeg =>
      ⟨fun f hkey => ?_, fun sigma omega hkey => ?_⟩⟩
  · obtain ⟨rfl, hconst⟩ := key_eq_error hkey
    refine ⟨execRskey_of_error hne hk hmax hdeg hkey, fun hs => ?_⟩
    obtain ⟨hnorm, hne0, hsolves⟩ := keyRows_solve (hs ps1).1 hk hdeg
    exact ⟨_, _, hnorm, hne0, hconst, hsolves⟩
  · obtain ⟨v, hone, hsigma, homega⟩ := key_eq_ok hkey
    refine ⟨by rw [hsigma, coef_pmuls, hone], fun hs => ?_, ?_⟩
    · obtain ⟨-, -, hsolves⟩ := keyRows_solve (hs ps1).1 hk hdeg
      rw [hsigma, homega]
      exact solvesKey_pmuls hsolves v
    · have hnorms : norm sigma = sigma := hsigma ▸ norm_pmuls ..
      have hnormo : norm omega = omega := homega ▸ norm_pmuls ..
      refine (execRskey_of_ok hne hk hmax hdeg hkey).trans ?_
      rw [State.setP_of_norm _ pomega hnormo, State.setP_of_norm s psigma hnorms]
      rfl

/-! `RSROOT` (R211). -/

section
variable {s : State} {xd xs2 : XReg} {ps1 : PReg}

theorem execRsroot_of_ne (hlen : (rootLocators (s.getP ps1)).length ≠ deg (s.getP ps1)) :
    execRsroot xd ps1 xs2 s = s.raise .rsFail 2 := by
  rw [execRsroot, roots_eq, if_neg hlen]
  rfl

variable (hlen : (rootLocators (s.getP ps1)).length = deg (s.getP ps1))
include hlen

theorem execRsroot_of_not_fits (hfit : ¬ fits (s.natX xs2) (rootLocators (s.getP ps1)).length) :
    execRsroot xd ps1 xs2 s = s.raise .addr (s.natX xs2) := by
  rw [execRsroot, roots_eq, if_pos hlen]
  exact symCheck_of_not_fits _ _ hfit

theorem execRsroot_of_fits (hfit : fits (s.natX xs2) (rootLocators (s.getP ps1)).length) :
    execRsroot xd ps1 xs2 s = ((s.storeSym (s.natX xs2) ((rootLocators (s.getP ps1)).map gfByte)).setX xd
      (toScalar (rootLocators (s.getP ps1)).length)).complete := by
  rw [execRsroot, roots_eq, if_pos hlen]
  exact symCheck_of_fits _ _ hfit

end

/-- A store of field elements leaves the bytes outside its range (R64). -/
theorem State.symByte_storeSym_gfByte_outside (s : State) (a : Nat) (q : List GF) {b : Nat}
    (h : b < a ∨ a + q.length ≤ b) : (s.storeSym a (q.map gfByte)).symByte b = s.symByte b :=
  s.symByte_storeSym_outside a _ b (by rwa [List.length_map])

/-- Settles O40: each clause is the case of the root count, then of the address. -/
theorem rsrootEffect : Obligations.RsrootEffect := by
  unfold Obligations.RsrootEffect
  intro xd ps1 xs2 s dst sigma xl i
  exact ⟨decode_encode i, fun hlen => execRsroot_of_ne hlen, fun hlen hfit => execRsroot_of_not_fits hlen hfit,
    fun hlen hfit => ⟨_, execRsroot_of_fits hlen hfit, fun j hj => s.symByte_storeSym_gfByte dst hj,
      fun a ha => s.symByte_storeSym_gfByte_outside dst xl ha, rfl⟩⟩

/-! `RSMAG` (R212, R214). -/

section
variable {s : State} {a n : Nat}

/-- The first byte of the range that is no non-zero field element is the one reported (R214). -/
theorem firstBadLoc_of_first {j : Nat} (hj : j < n) (hbefore : fieldBytes s a j)
    (hne : ∀ h, h < j → s.symByte (a + h) ≠ 0) (hbad : 63 < (s.symByte (a + j)).toNat ∨ s.symByte (a + j) = 0) :
    firstBadLoc (s.symBytes a n) = some (s.symByte (a + j)) := by
  refine List.find?_eq_some_iff_getElem.2 ⟨by simpa [isGF] using hbad, j, by simpa using hj,
    s.symBytes_getElem a n j _, fun i hi => ?_⟩
  rw [s.symBytes_getElem]
  simpa [isGF] using ⟨hbefore i hi, hne i hi⟩

theorem firstBadLoc_of_fieldBytes (h : fieldBytes s a n) (hne : ∀ j, j < n → s.symByte (a + j) ≠ 0) :
    firstBadLoc (s.symBytes a n) = none := by
  refine List.find?_eq_none.2 fun v hv => ?_
  obtain ⟨i, hi, rfl⟩ := List.getElem_of_mem hv
  have hi' : i < n := by simpa using hi
  rw [s.symBytes_getElem]
  simpa [isGF] using ⟨h i hi', hne i hi'⟩

end

theorem mags_length (omega : Poly) (xl : List GF) : (mags omega xl).length = xl.length := by simp [mags]

theorem mags_getD (omega : Poly) {xl : List GF} {j : Nat} (h : j < xl.length) : (mags omega xl).getD j 0 =
    gmul (ev omega (ginv (xl.getD j 0))) (ginv (magDen xl j)) := by
  simp [mags, h]

section
variable {s : State} {xs0 xs2 xs3 : XReg} {ps1 : PReg} (hm : s.natX xs3 ≤ 63)
include hm

theorem execRsmag_of_not_fits_source (hsrc : ¬ fits (s.natX xs2) (s.natX xs3)) :
    execRsmag xs0 ps1 xs2 xs3 s = s.raise .addr (s.natX xs2) :=
  (if_neg (Nat.not_lt.2 hm)).trans (symCheck_of_not_fits _ _ hsrc)

variable (hsrc : fits (s.natX xs2) (s.natX xs3))
include hsrc

theorem execRsmag_of_not_fits_dest (hdst : ¬ fits (s.natX xs0) (s.natX xs3)) :
    execRsmag xs0 ps1 xs2 xs3 s = s.raise .addr (s.natX xs0) :=
  (if_neg (Nat.not_lt.2 hm)).trans ((symCheck_of_fits _ _ hsrc).trans (symCheck_of_not_fits _ _ hdst))

variable (hdst : fits (s.natX xs0) (s.natX xs3))
include hdst

/-- The count and the ranges pass their checks, and the command goes on (R214). -/
theorem rsmagChecks_of_fits (r : Result) :
    (if 63 < s.natX xs3 then s.raise .range (s.natX xs3)
      else if !symFits (s.natX xs2) (s.natX xs3) then s.raise .addr (s.natX xs2)
      else if !symFits (s.natX xs0) (s.natX xs3) then s.raise .addr (s.natX xs0) else r) = r :=
  (if_neg (Nat.not_lt.2 hm)).trans ((symCheck_of_fits _ _ hsrc).trans (symCheck_of_fits _ _ hdst))

theorem execRsmag_of_range {v : Byte} (hv : 63 < v.toNat)
    (hbad : firstBadLoc (s.symBytes (s.natX xs2) (s.natX xs3)) = some v) :
    execRsmag xs0 ps1 xs2 xs3 s = s.raise .range v.toNat := by
  refine (rsmagChecks_of_fits hm hsrc hdst _).trans ?_
  rw [hbad]
  exact if_neg (by simpa [isGF] using hv)

theorem execRsmag_of_zero (hbad : firstBadLoc (s.symBytes (s.natX xs2) (s.natX xs3)) = some 0) :
    execRsmag xs0 ps1 xs2 xs3 s = s.raise .gfZero 0 := by
  refine (rsmagChecks_of_fits hm hsrc hdst _).trans ?_
  rw [hbad]
  rfl

variable (hgood : firstBadLoc (s.symBytes (s.natX xs2) (s.natX xs3)) = none)
include hgood

theorem execRsmag_of_den_zero
    (hden : ∃ j, j < s.natX xs3 ∧ magDen (symbols s (s.natX xs2) (s.natX xs3)) j = 0) :
    execRsmag xs0 ps1 xs2 xs3 s = s.raise .gfZero 0 := by
  refine (rsmagChecks_of_fits hm hsrc hdst _).trans ?_
  rw [hgood, symBytes_map_byteGF]
  exact if_pos (by simpa using hden)

theorem execRsmag_of_den_ne_zero
    (hden : ∀ j, j < s.natX xs3 → magDen (symbols s (s.natX xs2) (s.natX xs3)) j ≠ 0) :
    execRsmag xs0 ps1 xs2 xs3 s = (s.storeSym (s.natX xs0)
      ((mags (s.getP ps1) (symbols s (s.natX xs2) (s.natX xs3))).map gfByte)).complete := by
  refine (rsmagChecks_of_fits hm hsrc hdst _).trans ?_
  rw [hgood, symBytes_map_byteGF]
  exact if_neg (by simpa using hden)

end

/-- Settles O41: each clause is the case of the operands, then of the first bad byte, then of the denominators the checks come
to. The locators are read before the store, so the ranges may overlap. -/
theorem rsmagEffect : Obligations.RsmagEffect := by
  unfold Obligations.RsmagEffect
  intro xs0 ps1 xs2 xs3 s dst src m xl den i
  have hxl : xl.length = m := symbols_length ..
  have hden : magDen xl = den := by
    unfold magDen
    rw [hxl]
  refine ⟨decode_encode i, fun hm => if_pos hm, fun hm hsrc => execRsmag_of_not_fits_source hm hsrc,
    fun hm hsrc hdst => execRsmag_of_not_fits_dest hm hsrc hdst, fun hm hsrc hdst => ⟨fun j hj hbefore hne => ?_, ?_⟩⟩
  · have hfirst := firstBadLoc_of_first hj hbefore hne
    exact ⟨fun hbad => execRsmag_of_range hm hsrc hdst hbad (hfirst (.inl hbad)),
      fun hzero => execRsmag_of_zero hm hsrc hdst (hzero ▸ hfirst (.inr hzero))⟩
  · intro hbytes hne
    have hgood := firstBadLoc_of_fieldBytes hbytes hne
    rw [← hden]
    refine ⟨fun h0 => execRsmag_of_den_zero hm hsrc hdst hgood h0,
      fun h0 => ⟨_, execRsmag_of_den_ne_zero hm hsrc hdst hgood h0, fun j hj => ?_, fun a ha => ?_, rfl⟩⟩
    · rw [← mags_getD _ (hj.trans_eq hxl.symm)]
      exact s.symByte_storeSym_gfByte dst (hj.trans_eq ((mags_length _ xl).trans hxl).symm)
    · exact s.symByte_storeSym_gfByte_outside dst _ (by rwa [mags_length, hxl])

/-! `RSDEC` (R217, R218). -/

section
variable {s : State} {xs0 xs1 xs2 xs3 : XReg} (hn : 1 ≤ s.natX xs2) (hmax : s.natX xs2 ≤ Config.pmax)
  (hk : s.natX xs3 ≤ Config.kmax)
include hn hmax hk

theorem execRsdec_of_not_fits_source (hsrc : ¬ fits (s.natX xs1) (s.natX xs2)) :
    execRsdec xs0 xs1 xs2 xs3 s = s.raise .addr (s.natX xs1) :=
  (rsCounts_of_le hn hmax hk _).trans (symCheck_of_not_fits _ _ hsrc)

variable (hsrc : fits (s.natX xs1) (s.natX xs2))
include hsrc

theorem execRsdec_of_not_fits_dest (hdst : ¬ fits (s.natX xs0) (s.natX xs2)) :
    execRsdec xs0 xs1 xs2 xs3 s = s.raise .addr (s.natX xs0) :=
  (rsCounts_of_le hn hmax hk _).trans ((symCheck_of_fits _ _ hsrc).trans (symCheck_of_not_fits _ _ hdst))

variable (hdst : fits (s.natX xs0) (s.natX xs2))
include hdst

/-- The counts and the ranges pass their checks, and the command goes on (R218). -/
theorem rsdecChecks_of_fits (r : Result) :
    (if s.natX xs2 = 0 ∨ Config.pmax < s.natX xs2 then s.raise .range (s.natX xs2)
      else if Config.kmax < s.natX xs3 then s.raise .range (s.natX xs3)
      else if !symFits (s.natX xs1) (s.natX xs2) then s.raise .addr (s.natX xs1)
      else if !symFits (s.natX xs0) (s.natX xs2) then s.raise .addr (s.natX xs0) else r) = r :=
  (rsCounts_of_le hn hmax hk _).trans ((symCheck_of_fits _ _ hsrc).trans (symCheck_of_fits _ _ hdst))

theorem execRsdec_of_firstBadAt {j : Nat} (hbad : firstBadAt s (s.natX xs1) (s.natX xs2) j) :
    execRsdec xs0 xs1 xs2 xs3 s = s.raise .range (s.symByte (s.natX xs1 + j)).toNat := by
  refine (rsdecChecks_of_fits hn hmax hk hsrc hdst _).trans ?_
  rw [firstBad_of_firstBadAt hbad]

variable (hbytes : fieldBytes s (s.natX xs1) (s.natX xs2))
include hbytes

theorem execRsdec_of_error {f : RsFail}
    (h : rsdec (symbols s (s.natX xs1) (s.natX xs2)) (s.natX xs3) = .error f) :
    execRsdec xs0 xs1 xs2 xs3 s = s.raise .rsFail (rsFailNumber f) := by
  refine (rsdecChecks_of_fits hn hmax hk hsrc hdst _).trans ?_
  rw [firstBad_of_fieldBytes hbytes, symBytes_map_byteGF, h]

theorem execRsdec_of_ok {out : List GF} {cnt : Nat}
    (h : rsdec (symbols s (s.natX xs1) (s.natX xs2)) (s.natX xs3) = .ok (out, cnt)) :
    execRsdec xs0 xs1 xs2 xs3 s =
      State.complete { s.storeSym (s.natX xs0) (out.map gfByte) with ncorr := BitVec.ofNat 32 cnt } := by
  refine (rsdecChecks_of_fits hn hmax hk hsrc hdst _).trans ?_
  rw [firstBad_of_fieldBytes hbytes, symBytes_map_byteGF, h]

end

/-- Settles O42: each clause is the case of the operands the checks come to, then of the decoder's answer; the corrected array
is as long as the source. -/
theorem rsdecEffect : Obligations.RsdecEffect := by
  unfold Obligations.RsdecEffect
  intro xs0 xs1 xs2 xs3 s dst src n k i
  refine ⟨decode_encode i, fun hn => if_pos hn, fun hn hmax hk => rsCounts_of_lt hn hmax _ hk,
    fun hn hmax hk hsrc => execRsdec_of_not_fits_source hn hmax hk hsrc,
    fun hn hmax hk hsrc hdst => execRsdec_of_not_fits_dest hn hmax hk hsrc hdst, fun hn hmax hk hsrc hdst =>
      ⟨fun j hbad => execRsdec_of_firstBadAt hn hmax hk hsrc hdst hbad, fun hbytes =>
        ⟨fun f hdec => execRsdec_of_error hn hmax hk hsrc hdst hbytes hdec, fun out cnt hdec => ?_⟩⟩⟩
  have hlen : out.length = n := (rsdec_length hdec).1.trans (symbols_length ..)
  exact ⟨_, execRsdec_of_ok hn hmax hk hsrc hdst hbytes hdec,
    fun j hj => s.symByte_storeSym_gfByte dst (hj.trans_eq hlen.symm),
    fun a ha => s.symByte_storeSym_gfByte_outside dst out (by rwa [hlen]), rfl⟩

end Sys2Proof.Machine
end

section
/-! The content codec (R230 to R251): the alphabet and the layout of a code, the checks of the content decoder, and the two
commands, each its checks in order, then the write of its results. -/

open Sys2Proof.Certificates

namespace Sys2Proof.Machine

/-! Bytes as field elements (R131). -/

theorem toNat_gfByte (v : GF) : (gfByte v).toNat = v.toNat := by
  simp only [gfByte, BitVec.toNat_setWidth]
  omega

theorem forall_mem_map_gfByte (q : List GF) : ∀ v ∈ q.map gfByte, v.toNat ≤ 63 := by
  refine List.forall_mem_map.2 fun c _ => ?_
  rw [toNat_gfByte]
  omega

theorem byteGF_gfByte (v : GF) : byteGF (gfByte v) = v := by
  refine BitVec.eq_of_toNat_eq ?_
  rw [byteGF, BitVec.toNat_setWidth, toNat_gfByte]
  omega

theorem map_byteGF_map_gfByte (q : List GF) : (q.map gfByte).map byteGF = q := by
  simp [Function.comp_def, byteGF_gfByte]

theorem getD_map_gfByte (q : List GF) (j : Nat) : (q.map gfByte).getD j 0 = gfByte (q.getD j 0) :=
  List.getD_map q 0 gfByte

/-- A list of bytes passes the check of R131 when each is a field element. -/
theorem any_not_isGF_eq_false {vs : List Byte} (h : ∀ v ∈ vs, v.toNat ≤ 63) :
    (vs.any fun v => !isGF v.toNat) = false := by
  simpa [isGF] using h

theorem any_not_isGF_eq_true {vs : List Byte} (h : ¬ ∀ v ∈ vs, v.toNat ≤ 63) :
    (vs.any fun v => !isGF v.toNat) = true := by
  simpa [isGF] using h

theorem forall_mem_symBytes_iff {s : State} {a n : Nat} : (∀ v ∈ s.symBytes a n, v.toNat ≤ 63) ↔ fieldBytes s a n := by
  simp [State.symBytes, memRange, fieldBytes, State.symByte]

theorem State.symBytes_drop_take (s : State) (a : Nat) {n k m : Nat} (h : k + m ≤ n) :
    ((s.symBytes a n).drop k).take m = s.symBytes (a + k) m := by
  refine List.ext_getElem (by simp; omega) fun i _ _ => ?_
  rw [List.getElem_take, List.getElem_drop, s.symBytes_getElem, s.symBytes_getElem, Nat.add_assoc]

/-! The alphabet (R231, R237). -/

theorem alphaChar_of_alphaIndex {c : Byte} {v : GF} (h : alphaIndex c = some v) : alphaChar v = c := by
  obtain ⟨i, hfind, rfl⟩ := Option.map_eq_some_iff.1 h
  obtain ⟨hi, hc, -⟩ := List.findIdx?_eq_some_iff_getElem.1 hfind
  have hval : (BitVec.ofNat 6 i).toNat = i := (BitVec.toNat_ofNat ..).trans (Nat.mod_eq_of_lt hi)
  rw [alphaChar, hval, List.getD_eq_getElem _ _ hi]
  exact eq_of_beq hc

theorem alphaChar_payIndex_getD {c : Byte} (h : payIndex c ≠ none) : alphaChar ((payIndex c).getD 0) = upper c := by
  obtain ⟨v, hv⟩ := Option.ne_none_iff_exists'.1 h
  rw [hv]
  exact alphaChar_of_alphaIndex hv

/-! The layout of a code (R234 to R236, R238). -/

theorem lt_of_lt_sideFor {ms w : Nat} (h : w < sideFor ms) : w * w < ms := by
  unfold sideFor at h
  cases hf : (List.range 8).find? fun w => decide (ms ≤ w * w) with
  | none =>
    rw [hf] at h
    simpa using List.find?_eq_none.1 hf w (List.mem_range.2 h)
  | some side =>
    rw [hf] at h
    simpa using (List.find?_range_eq_some.1 hf).2.2 w h

/-- The decoder derives the encoder's parity count (R236, R245). -/
theorem derivedParity_side {len : Nat} {ec : F64} (h : minSize len ec ≤ 64) :
    derivedParity (sideFor (minSize len ec) * sideFor (minSize len ec)) len = finalParity len ec := by
  have hside := (sideFor_spec h).1
  unfold finalParity derivedParity evenDown
  dsimp only
  generalize sideFor (minSize len ec) * sideFor (minSize len ec) = n at *
  unfold minSize firstParity at *
  omega

/-- The code is the version, the length, the mapped characters, and the cells behind them. -/
theorem exists_rsenc_codeData (pay : List Byte) (nd k : Nat) : ∃ rest, rsenc (codeData pay nd) k =
    1 :: BitVec.ofNat 6 pay.length :: (pay.map fun c => (payIndex c).getD 0) ++ rest := by
  obtain ⟨parity, hcode⟩ := prefix_rsenc (codeData pay nd) k
  rw [← hcode, codeData, List.append_assoc]
  exact ⟨_, rfl⟩

/-- The array `CENC` stores has a cell for every cell of the square (R238). -/
theorem rsenc_codeData_length {pay : List Byte} {len : Nat} {ec : F64} (hlen : pay.length = len) (h : minSize len ec ≤ 64) :
    let side := sideFor (minSize len ec)
    let parity := finalParity len ec
    (rsenc (codeData pay (side * side - parity)) parity).length = side * side := by
  intro side parity
  have hpar : parity + (2 + len) ≤ side * side := finalParity_le h
  rw [rsenc_length, codeData_length _ _ (by omega)]
  omega

/-! The checks of the content decoder (R245 to R247). -/

theorem cdecCheck_of_version {data : List Byte} (h : data.getD 0 0 ≠ 1) : cdecCheck data = .error 1 :=
  if_pos fun h1 => h (BitVec.eq_of_toNat_eq h1)

section
variable {data : List Byte} (hver : data.getD 0 0 = 1)
include hver

theorem cdecVersion_of_eq {α : Type} (fault rest : α) : (if (data.getD 0 0).toNat ≠ 1 then fault else rest) = rest :=
  if_neg (by rw [hver]; decide)

theorem cdecCheck_of_length (h : ¬ (1 ≤ (data.getD 1 0).toNat ∧ (data.getD 1 0).toNat + 2 ≤ data.length)) :
    cdecCheck data = .error 2 :=
  (cdecVersion_of_eq hver _ _).trans (if_pos (by omega))

variable (hpos : 1 ≤ (data.getD 1 0).toNat) (hle : (data.getD 1 0).toNat + 2 ≤ data.length)
include hpos hle

/-- The metadata passes its checks, and the decoder goes on (R245 step 1). -/
theorem cdecMeta_of_le (r : Except Nat (Nat × Nat × Nat × List Byte)) :
    (if (data.getD 0 0).toNat ≠ 1 then .error 1
      else if data.length < 2 ∨ (data.getD 1 0).toNat < 1 ∨ data.length < (data.getD 1 0).toNat + 2 then .error 2
      else r) = r :=
  (cdecVersion_of_eq hver _ _).trans (if_neg (by omega))

theorem cdecCheck_of_no_parity (h0 : derivedParity data.length (data.getD 1 0).toNat = 0) :
    cdecCheck data = .ok ((data.getD 1 0).toNat, 0, 0, data) :=
  (cdecMeta_of_le hver hpos hle _).trans (if_pos h0)

variable (h0 : derivedParity data.length (data.getD 1 0).toNat ≠ 0)
include h0

theorem cdecCheck_of_not_field (h : ¬ ∀ v ∈ data, v.toNat ≤ 63) : cdecCheck data = .error 5 :=
  (cdecMeta_of_le hver hpos hle _).trans ((if_neg h0).trans (if_pos (any_not_isGF_eq_true h)))

variable (hfield : ∀ v ∈ data, v.toNat ≤ 63)
include hfield

theorem cdecCheck_of_rsdec_error {f : RsFail}
    (h : rsdec (data.map byteGF) (derivedParity data.length (data.getD 1 0).toNat) = .error f) :
    cdecCheck data = .error (0x10 + rsFailNumber f) := by
  refine (cdecMeta_of_le hver hpos hle _).trans ((if_neg h0).trans ?_)
  rw [any_not_isGF_eq_false hfield, h]
  rfl

variable {out : List GF} {cnt : Nat}
  (hdec : rsdec (data.map byteGF) (derivedParity data.length (data.getD 1 0).toNat) = .ok (out, cnt))
include hdec

/-- The decoder ends by comparing the metadata with those the parity count was derived from (R245 step 4). -/
theorem cdecCheck_of_rsdec_ok : cdecCheck data =
    if (out.map gfByte).getD 0 0 ≠ data.getD 0 0 ∨ (out.map gfByte).getD 1 0 ≠ data.getD 1 0 then .error 4
    else .ok ((data.getD 1 0).toNat, derivedParity data.length (data.getD 1 0).toNat, cnt, out.map gfByte) := by
  refine (cdecMeta_of_le hver hpos hle _).trans ((if_neg h0).trans ?_)
  rw [any_not_isGF_eq_false hfield, hdec]
  rfl

theorem cdecCheck_of_changed (h : gfByte (out.getD 0 0) ≠ data.getD 0 0 ∨ gfByte (out.getD 1 0) ≠ data.getD 1 0) :
    cdecCheck data = .error 4 := by
  rw [cdecCheck_of_rsdec_ok hver hpos hle h0 hfield hdec, getD_map_gfByte, getD_map_gfByte, if_pos h]

theorem cdecCheck_of_kept (hzero : gfByte (out.getD 0 0) = data.getD 0 0) (hone : gfByte (out.getD 1 0) = data.getD 1 0) :
    cdecCheck data =
      .ok ((data.getD 1 0).toNat, derivedParity data.length (data.getD 1 0).toNat, cnt, out.map gfByte) := by
  rw [cdecCheck_of_rsdec_ok hver hpos hle h0 hfield hdec, getD_map_gfByte, getD_map_gfByte]
  exact if_neg (not_or.2 ⟨not_not_intro hzero, not_not_intro hone⟩)

end

/-- The content decoder corrects nothing in a codeword whose metadata fits it (R251 (a)). -/
theorem cdecCheck_of_codeword {cw : List GF} {k : Nat} (hdec : rsdec cw k = .ok (cw, 0)) (hver : cw.getD 0 0 = 1)
    (hpos : 1 ≤ (cw.getD 1 0).toNat) (hle : (cw.getD 1 0).toNat + 2 ≤ cw.length)
    (hpar : derivedParity cw.length (cw.getD 1 0).toNat = k) :
    cdecCheck (cw.map gfByte) = .ok ((cw.getD 1 0).toNat, k, 0, cw.map gfByte) := by
  have hver' : (cw.map gfByte).getD 0 0 = 1 := by rw [getD_map_gfByte, hver]; rfl
  have hlen' : ((cw.map gfByte).getD 1 0).toNat = (cw.getD 1 0).toNat := by rw [getD_map_gfByte, toNat_gfByte]
  have hpar' : derivedParity (cw.map gfByte).length ((cw.map gfByte).getD 1 0).toNat = k := by
    rw [hlen', List.length_map, hpar]
  rw [← hlen'] at hpos hle ⊢
  have hle' : ((cw.map gfByte).getD 1 0).toNat + 2 ≤ (cw.map gfByte).length := hle.trans_eq (List.length_map _).symm
  rcases eq_or_ne k 0 with rfl | hk
  · exact cdecCheck_of_no_parity hver' hpos hle' hpar'
  · have hfield := forall_mem_map_gfByte cw
    have hdec' : rsdec ((cw.map gfByte).map byteGF) k = .ok (cw, 0) := by rwa [map_byteGF_map_gfByte]
    subst hpar'
    exact cdecCheck_of_kept hver' hpos hle' hk hfield hdec' (getD_map_gfByte cw 0).symm (getD_map_gfByte cw 1).symm

/-- A fresh codeword is decoded to itself (R219 (a)). -/
theorem rsdec_rsenc (data : List GF) {k : Nat} (hk : k ≤ 63) : rsdec (rsenc data k) k = .ok (rsenc data k, 0) :=
  rsdec_of_syn_zero (syn_eq_zero hk fun _ hi => ev_rsenc hi)

/-- Settles O58: the code is a codeword of the parity count the decoder derives, and its mapped characters stand behind the
version and the length. -/
theorem contentRoundTrip : Obligations.ContentRoundTrip := by
  unfold Obligations.ContentRoundTrip
  intro pay ec hpay _ hms hchars side parity code
  have hfin : parity + (2 + pay.length) ≤ side * side := finalParity_le hms
  have hsq : side * side ≤ 64 := sideFor_sq_le hms
  have hpar : derivedParity (side * side) pay.length = parity := derivedParity_side hms
  have hpos := List.length_pos_iff.2 hpay
  set cw : List GF := rsenc (codeData pay (side * side - parity)) parity
  have hlength : cw.length = side * side := rsenc_codeData_length rfl hms
  have hdec : rsdec cw parity = .ok (cw, 0) := rsdec_rsenc _ (by omega)
  obtain ⟨rest, hcw⟩ : ∃ rest, cw = 1 :: _ := exists_rsenc_codeData ..
  have hlen : (cw.getD 1 0).toNat = pay.length := by
    rw [hcw]
    exact (BitVec.toNat_ofNat ..).trans (Nat.mod_eq_of_lt (by omega))
  refine ⟨(List.length_map _).trans hlength, ?_, ?_⟩
  · have hver : cw.getD 0 0 = 1 := by rw [hcw]; rfl
    have hcheck := cdecCheck_of_codeword hdec hver (by omega) (by omega) (by rw [hlength, hlen, hpar])
    rwa [hlen] at hcheck
  · have hbody : code.drop 2 = ((pay.map fun c => (payIndex c).getD 0) ++ rest).map gfByte :=
      congrArg (fun q => (q.map gfByte).drop 2) hcw
    rw [hbody, ← List.map_take, List.take_left' (List.length_map _), List.map_map, List.map_map]
    refine List.map_congr_left fun c hc => ?_
    simp only [Function.comp_apply, byteGF_gfByte, alphaChar_payIndex_getD (hchars c hc)]

/-! `CDEC` (R250). -/

section
variable {s : State} {xs0 xs1 xs2 : XReg} (hn : 1 ≤ s.natX xs2) (hmax : s.natX xs2 ≤ Config.pmax)
include hn hmax

theorem execCdec_of_not_square (hsq : s.codeSize.toNat * s.codeSize.toNat ≠ s.natX xs2) :
    execCdec xs0 xs1 xs2 s = s.raise .notSquare s.codeSize.toNat :=
  (if_neg (by omega)).trans (if_pos hsq)

variable (hsq : s.codeSize.toNat * s.codeSize.toNat = s.natX xs2)
include hsq

theorem execCdec_of_not_fits_source (hsrc : ¬ fits (s.natX xs1) (s.natX xs2)) :
    execCdec xs0 xs1 xs2 s = s.raise .addr (s.natX xs1) :=
  (if_neg (by omega)).trans ((if_neg (not_not_intro hsq)).trans (symCheck_of_not_fits _ _ hsrc))

variable (hsrc : fits (s.natX xs1) (s.natX xs2))
include hsrc

/-- The count, the side and the source pass their checks, and the command goes on (R250). -/
theorem cdecChecks_of_fits (r : Result) :
    (if s.natX xs2 = 0 ∨ Config.pmax < s.natX xs2 then s.raise .range (s.natX xs2)
      else if s.codeSize.toNat * s.codeSize.toNat ≠ s.natX xs2 then s.raise .notSquare s.codeSize.toNat
      else if !symFits (s.natX xs1) (s.natX xs2) then s.raise .addr (s.natX xs1) else r) = r :=
  (if_neg (by omega)).trans ((if_neg (not_not_intro hsq)).trans (symCheck_of_fits _ _ hsrc))

theorem execCdec_of_error {info : Nat} (h : cdecCheck (s.symBytes (s.natX xs1) (s.natX xs2)) = .error info) :
    execCdec xs0 xs1 xs2 s = s.raise .invalidCode info := by
  refine (cdecChecks_of_fits hn hmax hsq hsrc _).trans ?_
  rw [h]

variable {len parity cnt : Nat} {out : List Byte}
  (hcheck : cdecCheck (s.symBytes (s.natX xs1) (s.natX xs2)) = .ok (len, parity, cnt, out))
include hcheck

theorem execCdec_of_not_fits_dest (hdst : ¬ fits (s.natX xs0) len) :
    execCdec xs0 xs1 xs2 s = s.raise .addr (s.natX xs0) := by
  refine (cdecChecks_of_fits hn hmax hsq hsrc _).trans ?_
  rw [hcheck]
  exact symCheck_of_not_fits _ _ hdst

variable (hdst : fits (s.natX xs0) len)
include hdst

theorem execCdec_of_not_field (hchars : ¬ ∀ v ∈ (out.drop 2).take len, v.toNat ≤ 63) :
    execCdec xs0 xs1 xs2 s = s.raise .invalidCode 5 := by
  refine (cdecChecks_of_fits hn hmax hsq hsrc _).trans ?_
  rw [hcheck]
  exact (symCheck_of_fits _ _ hdst).trans (if_pos (any_not_isGF_eq_true hchars))

variable (hchars : ∀ v ∈ (out.drop 2).take len, v.toNat ≤ 63)
include hchars

theorem execCdec_of_field : execCdec xs0 xs1 xs2 s =
    State.complete { s.storeSym (s.natX xs0) (((out.drop 2).take len).map fun v => alphaChar (byteGF v)) with
      codeVer := 1#32, plen := BitVec.ofNat 32 len, par := BitVec.ofNat 32 parity, ncorr := BitVec.ofNat 32 cnt } := by
  refine (cdecChecks_of_fits hn hmax hsq hsrc _).trans ?_
  rw [hcheck]
  refine (symCheck_of_fits _ _ hdst).trans (if_neg ?_)
  rw [any_not_isGF_eq_false hchars]
  decide

/-- The characters are those of the symbols behind the metadata (R245 step 5). -/
theorem execCdec_stores (hlen : len + 2 ≤ out.length) : ∃ t, execCdec xs0 xs1 xs2 s = .next t ∧
    (∀ j, j < len → t.symByte (s.natX xs0 + j) = alphaChar ((out.map byteGF).getD (2 + j) 0)) ∧
    (∀ a, a < s.natX xs0 ∨ s.natX xs0 + len ≤ a → t.symByte a = s.symByte a) ∧
    t = { s with sym := t.sym, codeVer := 1#32, plen := BitVec.ofNat 32 len, par := BitVec.ofNat 32 parity,
                 ncorr := BitVec.ofNat 32 cnt, cp := s.cp + 1#32 } := by
  have hstored : (((out.drop 2).take len).map fun v => alphaChar (byteGF v)).length = len := by simp; omega
  refine ⟨_, execCdec_of_field hn hmax hsq hsrc hcheck hdst hchars, fun j hj => ?_, fun a ha => ?_, rfl⟩
  · refine (s.symByte_storeSym_inside _ _ j (hj.trans_eq hstored.symm)).trans ?_
    rw [List.getElem_map, List.getElem_take, List.getElem_drop, List.getD_eq_getElem _ _ (by simp; omega),
      List.getElem_map]
  · exact s.symByte_storeSym_outside _ _ a (by rwa [hstored])

end

/-- Settles O44: each clause is the case of the operands, then of the content decoder's answer, then of the destination. Without
parity symbols the bytes are read as they are and only the characters need be field elements; with them every byte is one. -/
theorem cdecEffect : Obligations.CdecEffect := by
  unfold Obligations.CdecEffect
  intro xs0 xs1 xs2 s dst src n size data len parity i stored
  refine ⟨decode_encode i, fun hn => if_pos hn, fun hn hmax hsq => execCdec_of_not_square hn hmax hsq,
    fun hn hmax hsq hsrc => execCdec_of_not_fits_source hn hmax hsq hsrc, fun hn hmax hsq hsrc => ?_⟩
  have hdata : data.length = n := s.symBytes_length ..
  have hpar : derivedParity data.length len = parity := by rw [hdata]; rfl
  have herror {info : Nat} (h : cdecCheck data = .error info) : faultsAs i s .invalidCode info :=
    execCdec_of_error hn hmax hsq hsrc h
  refine ⟨fun hver => herror (cdecCheck_of_version hver),
    fun hver hlen => herror (cdecCheck_of_length hver (by rwa [hdata])), fun hver hpos hle => ?_⟩
  rw [← hdata] at hle
  have hsymbols : data.map byteGF = symbols s src n := symBytes_map_byteGF ..
  have hstored {out : List Byte} {cnt : Nat} (hout : out.length = data.length) (hdst : fits dst len)
      (hchars : ∀ v ∈ (out.drop 2).take len, v.toNat ≤ 63) (hcheck : cdecCheck data = .ok (len, parity, cnt, out)) :
      stored (out.map byteGF) cnt :=
    execCdec_stores hn hmax hsq hsrc hcheck hdst hchars (hle.trans_eq hout.symm)
  have hplain (h0 : parity = 0) : cdecCheck data = .ok (len, parity, 0, data) :=
    (cdecCheck_of_no_parity hver hpos hle (hpar.trans h0)).trans (by rw [h0])
  have hpay : (∀ v ∈ (data.drop 2).take len, v.toNat ≤ 63) ↔ fieldBytes s (src + 2) len := by
    rw [s.symBytes_drop_take src (by omega), forall_mem_symBytes_iff]
  refine ⟨fun h0 hdst => execCdec_of_not_fits_dest hn hmax hsq hsrc (hplain h0) hdst,
    fun h0 hdst hbytes => execCdec_of_not_field hn hmax hsq hsrc (hplain h0) hdst (mt hpay.1 hbytes),
    fun h0 hdst hbytes => hsymbols ▸ hstored rfl hdst (hpay.2 hbytes) (hplain h0),
    fun h0 hbytes =>
      herror (cdecCheck_of_not_field hver hpos hle (hpar.trans_ne h0) (mt forall_mem_symBytes_iff.1 hbytes)),
    fun h0 hbytes => ?_⟩
  have hfield := forall_mem_symBytes_iff.2 hbytes
  rw [← hsymbols, ← hpar]
  refine ⟨fun f hdec => herror (cdecCheck_of_rsdec_error hver hpos hle (hpar.trans_ne h0) hfield hdec),
    fun out cnt hdec =>
      ⟨fun hne => herror (cdecCheck_of_changed hver hpos hle (hpar.trans_ne h0) hfield hdec hne), fun hzero hone => ?_⟩⟩
  have hok := cdecCheck_of_kept hver hpos hle (hpar.trans_ne h0) hfield hdec hzero hone
  refine ⟨fun hdst => execCdec_of_not_fits_dest hn hmax hsq hsrc hok hdst, fun hdst => ?_⟩
  have hout : (out.map gfByte).length = data.length := by
    rw [List.length_map, (rsdec_length hdec).1, List.length_map]
  have hchars : ∀ v ∈ ((out.map gfByte).drop 2).take len, v.toNat ≤ 63 := fun v hv =>
    forall_mem_map_gfByte out v (List.mem_of_mem_drop (List.mem_of_mem_take hv))
  rw [← map_byteGF_map_gfByte out]
  exact hstored hout hdst hchars (hpar ▸ hok)

/-! `CENC` (R240). -/

/-- The first character outside the alphabet is the one reported (R237). -/
theorem firstBadChar_of_first {s : State} {a n j : Nat} (hj : j < n)
    (hbefore : ∀ h, h < j → payIndex (s.symByte (a + h)) ≠ none) (hbad : payIndex (s.symByte (a + j)) = none) :
    firstBadChar (s.symBytes a n) = some j := by
  refine List.findIdx?_eq_some_iff_getElem.2 ⟨by simpa using hj, ?_, fun h hh => ?_⟩
  · rw [s.symBytes_getElem, hbad]
    rfl
  · rw [s.symBytes_getElem]
    simpa [Option.isSome_iff_ne_none] using hbefore h hh

theorem firstBadChar_of_ne_none {s : State} {a n : Nat} (h : ∀ j, j < n → payIndex (s.symByte (a + j)) ≠ none) :
    firstBadChar (s.symBytes a n) = none := by
  refine List.findIdx?_eq_none_iff.2 fun c hc => ?_
  obtain ⟨j, hj, rfl⟩ := List.getElem_of_mem hc
  rw [s.symBytes_getElem]
  simpa [Option.isSome_iff_ne_none] using h j (by simpa using hj)

section
variable {s : State} {xs0 xs1 xs2 : XReg} (hlen : s.natX xs2 ≠ 0)
include hlen

theorem execCenc_of_level (hec : levelOk s.eclvl = false) : execCenc xs0 xs1 xs2 s = s.raise .ecLevel 0 :=
  (if_neg hlen).trans (if_pos (by rw [hec]; rfl))

variable (hec : levelOk s.eclvl = true)
include hec

/-- The payload is not empty and the level is accepted, and the command goes on (R233). -/
theorem cencLevel_of_true (r : Result) :
    (if s.natX xs2 = 0 then s.raise .emptyPayload 0 else if !levelOk s.eclvl then s.raise .ecLevel 0 else r) = r :=
  (if_neg hlen).trans (if_neg (by rw [hec]; decide))

theorem execCenc_of_too_big (hms : Config.maxSize < minSize (s.natX xs2) s.eclvl) :
    execCenc xs0 xs1 xs2 s = s.raise .tooBig (minSize (s.natX xs2) s.eclvl) :=
  (cencLevel_of_true hlen hec _).trans (if_pos hms)

variable (hms : minSize (s.natX xs2) s.eclvl ≤ Config.maxSize)
include hms

theorem execCenc_of_not_fits_source (hsrc : ¬ fits (s.natX xs1) (s.natX xs2)) :
    execCenc xs0 xs1 xs2 s = s.raise .addr (s.natX xs1) :=
  (cencLevel_of_true hlen hec _).trans ((if_neg (Nat.not_lt.2 hms)).trans (symCheck_of_not_fits _ _ hsrc))

variable (hsrc : fits (s.natX xs1) (s.natX xs2))
include hsrc

/-- The payload and the source pass their checks, and the command goes on (R240). -/
theorem cencChecks_of_fits (r : Result) :
    (if s.natX xs2 = 0 then s.raise .emptyPayload 0
      else if !levelOk s.eclvl then s.raise .ecLevel 0
      else if Config.maxSize < minSize (s.natX xs2) s.eclvl then s.raise .tooBig (minSize (s.natX xs2) s.eclvl)
      else if !symFits (s.natX xs1) (s.natX xs2) then s.raise .addr (s.natX xs1) else r) = r :=
  (cencLevel_of_true hlen hec _).trans ((if_neg (Nat.not_lt.2 hms)).trans (symCheck_of_fits _ _ hsrc))

variable {side : Nat} (hside : sideFor (minSize (s.natX xs2) s.eclvl) = side)
include hside

theorem execCenc_of_not_fits_dest (hdst : ¬ fits (s.natX xs0) (side * side)) :
    execCenc xs0 xs1 xs2 s = s.raise .addr (s.natX xs0) := by
  subst hside
  exact (cencChecks_of_fits hlen hec hms hsrc _).trans (symCheck_of_not_fits _ _ hdst)

variable (hdst : fits (s.natX xs0) (side * side))
include hdst

theorem execCenc_of_firstBadChar {j : Nat} (h : firstBadChar (s.symBytes (s.natX xs1) (s.natX xs2)) = some j) :
    execCenc xs0 xs1 xs2 s = s.raise .badChar j := by
  subst hside
  refine ((cencChecks_of_fits hlen hec hms hsrc _).trans (symCheck_of_fits _ _ hdst)).trans ?_
  rw [h]

theorem execCenc_of_chars (h : firstBadChar (s.symBytes (s.natX xs1) (s.natX xs2)) = none)
    {parity : Nat} (hpar : finalParity (s.natX xs2) s.eclvl = parity) : execCenc xs0 xs1 xs2 s =
      State.complete { (s.storeSym (s.natX xs0) ((rsenc (codeData (s.symBytes (s.natX xs1) (s.natX xs2))
        (side * side - parity)) parity).map gfByte)).cacheGen parity with
          codeSize := BitVec.ofNat 32 side, codeVer := 1#32, par := BitVec.ofNat 32 parity } := by
  subst hside hpar
  refine ((cencChecks_of_fits hlen hec hms hsrc _).trans (symCheck_of_fits _ _ hdst)).trans ?_
  rw [h]

end

/-- Settles O43: each clause is the case of the payload and the operands the checks come to. The payload is read before the
store, so the ranges may overlap; the code fills the square. -/
theorem cencEffect : Obligations.CencEffect := by
  unfold Obligations.CencEffect
  intro xs0 xs1 xs2 s dst src len ms side parity pay i
  refine ⟨decode_encode i, fun hlen => if_pos hlen, fun hlen hec => execCenc_of_level hlen hec,
    fun hlen hec hms => execCenc_of_too_big hlen hec hms, fun hlen hec hms => ⟨(sideFor_spec hms).1,
      fun w hw => lt_of_lt_sideFor hw, fun hsrc => execCenc_of_not_fits_source hlen hec hms hsrc,
      fun hsrc hdst => execCenc_of_not_fits_dest hlen hec hms hsrc rfl hdst, fun hsrc hdst =>
        ⟨fun j hj hbefore hbad =>
          execCenc_of_firstBadChar hlen hec hms hsrc rfl hdst (firstBadChar_of_first hj hbefore hbad), fun hchars => ?_⟩⟩⟩
  have hcode : (rsenc (codeData pay (side * side - parity)) parity).length = side * side :=
    rsenc_codeData_length (s.symBytes_length ..) hms
  exact ⟨_, execCenc_of_chars hlen hec hms hsrc rfl hdst (firstBadChar_of_ne_none hchars) rfl,
    fun j hj => s.symByte_storeSym_gfByte dst (hj.trans_eq hcode.symm),
    fun a ha => s.symByte_storeSym_gfByte_outside dst _ (by rwa [hcode]), rfl⟩

end Sys2Proof.Machine
end

section
/-! The renderer (R260 to R272): each shape of the drawing as the inequalities of its rule, the cells and bytes of the drawing
by pixel, and the command, its checks in order, then its two stores. -/

open Sys2Proof.Certificates

namespace Sys2Proof.Machine

/-! Matrices written row by row from cell 0 on. -/

/-- Rows of equal length put one after the other: row `i` begins at `i * m`. -/
theorem getElem?_flatMap_of_length {α β : Type} {f : α → List β} {m j : Nat} (hf : ∀ a, (f a).length = m) (hj : j < m)
    {l : List α} {i : Nat} {a : α} (h : l[i]? = some a) : (l.flatMap f)[i * m + j]? = (f a)[j]? := by
  induction l generalizing i with
  | nil => cases h
  | cons b l ih =>
    rw [List.flatMap_cons]
    cases i with
    | zero =>
      cases h
      rw [Nat.zero_mul, Nat.zero_add, List.getElem?_append_left (by rwa [hf])]
    | succ i =>
      have hskip : (i + 1) * m + j = (f b).length + (i * m + j) := by rw [hf, Nat.succ_mul]; omega
      rw [hskip, List.getElem?_append_right (Nat.le_add_right ..), Nat.add_sub_cancel_left]
      exact ih h

section
variable {α : Type} (fill : Nat → α) (mm : Mem α) {vs : List α} {i : Nat}

theorem memRead_memWrite_zero_of_getElem? {v : α} (h : vs[i]? = some v) : memRead fill (memWrite mm 0 vs) i = v := by
  obtain ⟨hi, rfl⟩ := List.getElem?_eq_some_iff.1 h
  rw [← memRead_memWrite_inside fill mm 0 vs i hi, Nat.zero_add]

theorem memRead_memWrite_zero_of_le (h : vs.length ≤ i) : memRead fill (memWrite mm 0 vs) i = memRead fill mm i :=
  memRead_memWrite_outside _ _ _ _ _ (.inr (by rwa [Nat.zero_add]))

end

/-! The rings (R265, R266). -/

section
variable (sc cx cy x y : Nat)

theorem absDiff_mul_self (a b : Nat) : ((absDiff a b * absDiff a b : Nat) : Int) = ((a : Int) - b) ^ 2 := by
  have hnat : absDiff a b = ((a : Int) - b).natAbs := by unfold absDiff; omega
  rw [hnat, Int.natAbs_mul_self, sq]

theorem ringDist_eq : (ringDist cx cy x y : Int) = 49 * (((x : Int) - cx) ^ 2 + ((y : Int) - cy) ^ 2) := by
  rw [ringDist, Nat.cast_mul, Nat.cast_add, absDiff_mul_self, absDiff_mul_self]
  rfl

theorem inRing_iff (lo hi : Nat) :
    inRing sc lo hi cx cy x y ↔ (lo * sc) ^ 2 < ringDist cx cy x y ∧ ringDist cx cy x y ≤ (hi * sc) ^ 2 := by
  rw [inRing, ← ringDist_eq]
  norm_cast

theorem alignBlack_iff : alignBlack sc cx cy x y = true ↔ inRing sc 33 55 cx cy x y := by
  simp [alignBlack, inRing_iff]

theorem finderBlack_iff : finderBlack sc cx cy x y = true ↔ inFinder sc cx cy x y := by
  rw [inFinder, ← ringDist_eq, inRing_iff]
  norm_cast
  simp [finderBlack]

end

/-! The symbol grid (R268, R269). -/

section
variable {side sc pad x y : Nat} (hsc : 0 < sc)

/-- The offsets inside bar `b`, from the corner of the symbol. -/
theorem inBar_add (sc pad c r b : Nat) (v : GF) (ox oy : Nat) :
    inBar sc pad c r b v (pad + (44 + 28 * c) * sc + ox) (pad + (44 + 28 * r) * sc + oy) ↔
      4 * b * sc ≤ oy ∧ oy < 4 * b * sc + 2 * sc ∧ ox < 22 * sc ∧
        ¬ (v.getLsbD (5 - b) = false ∧ 9 * sc ≤ ox ∧ ox < 13 * sc) := by
  simp [inBar, Nat.add_assoc]

include hsc

/-- The bar a row of the symbol lies in is its quotient by the distance of two bars. -/
theorem barRow_iff {oy b : Nat} :
    oy / (4 * sc) = b ∧ oy % (4 * sc) < 2 * sc ↔ 4 * b * sc ≤ oy ∧ oy < 4 * b * sc + 2 * sc := by
  rw [Nat.mul_right_comm 4 b sc]
  constructor
  · rintro ⟨rfl, hrow⟩
    have hsum := Nat.mod_add_div oy (4 * sc)
    omega
  · rintro ⟨hle, hlt⟩
    obtain ⟨o, rfl⟩ := Nat.exists_eq_add_of_le hle
    obtain ⟨hquot, hrem⟩ := (Nat.div_mod_unique (by omega)).2 ⟨Nat.add_comm o (4 * sc * b), by omega⟩
    omega

theorem glyphBlack_iff {oy : Nat} (v : GF) (ox : Nat) (hy : oy < 22 * sc) : glyphBlack sc v ox oy = true ↔
    ∃ b, b < 6 ∧ 4 * b * sc ≤ oy ∧ oy < 4 * b * sc + 2 * sc ∧
      ¬ (v.getLsbD (5 - b) = false ∧ 9 * sc ≤ ox ∧ ox < 13 * sc) := by
  have hpixel : glyphBlack sc v ox oy = true ↔ oy % (4 * sc) < 2 * sc ∧
      ¬ (v.getLsbD (5 - oy / (4 * sc)) = false ∧ 9 * sc ≤ ox ∧ ox < 13 * sc) := by
    simp [glyphBlack, or_iff_not_imp_left]
  rw [hpixel]
  constructor
  · rintro ⟨hrow, hhole⟩
    obtain ⟨hle, hlt⟩ := (barRow_iff hsc).1 ⟨rfl, hrow⟩
    exact ⟨_, Nat.div_lt_of_lt_mul (by omega), hle, hlt, hhole⟩
  · rintro ⟨b, -, hle, hlt, hhole⟩
    obtain ⟨rfl, hrow⟩ := (barRow_iff hsc).2 ⟨hle, hlt⟩
    exact ⟨hrow, hhole⟩

/-- A coordinate of the grid is the corner of a symbol and an offset inside it; the quotient and the remainder find them. -/
theorem symbolOffset_iff {c o : Nat} (ho : o < 22 * sc) :
    (pad + 44 * sc ≤ x ∧ (x - (pad + 44 * sc)) / (28 * sc) = c ∧ (x - (pad + 44 * sc)) % (28 * sc) = o) ↔
      x = pad + (44 + 28 * c) * sc + o := by
  have hcorner : pad + (44 + 28 * c) * sc = pad + 44 * sc + 28 * sc * c := by ring
  rw [Nat.div_mod_unique (by omega), hcorner]
  omega

theorem gridBlack_iff_offset (data : Array GF) : gridBlack side sc pad data x y = true ↔
    ∃ c r ox oy, c < side ∧ r < side ∧ ox < 22 * sc ∧ oy < 22 * sc ∧ x = pad + (44 + 28 * c) * sc + ox ∧
      y = pad + (44 + 28 * r) * sc + oy ∧ glyphBlack sc (data.getD (c * side + r) 0) ox oy = true := by
  simp only [gridBlack, Bool.and_eq_true, decide_eq_true_eq]
  constructor
  · rintro ⟨⟨⟨⟨⟨⟨hx, hy⟩, hc⟩, hr⟩, hox⟩, hoy⟩, hglyph⟩
    exact ⟨_, _, _, _, hc, hr, hox, hoy, (symbolOffset_iff hsc hox).1 ⟨hx, rfl, rfl⟩,
      (symbolOffset_iff hsc hoy).1 ⟨hy, rfl, rfl⟩, hglyph⟩
  · rintro ⟨c, r, ox, oy, hc, hr, hox, hoy, hx, hy, hglyph⟩
    obtain ⟨hx, hxc, hxo⟩ := (symbolOffset_iff hsc hox).2 hx
    obtain ⟨hy, hyr, hyo⟩ := (symbolOffset_iff hsc hoy).2 hy
    rw [hxc, hxo, hyr, hyo]
    exact ⟨⟨⟨⟨⟨⟨hx, hy⟩, hc⟩, hr⟩, hox⟩, hoy⟩, hglyph⟩

theorem gridBlack_iff (data : Array GF) : gridBlack side sc pad data x y = true ↔
    ∃ c r b, c < side ∧ r < side ∧ b < 6 ∧ inBar sc pad c r b (data.getD (c * side + r) 0) x y := by
  rw [gridBlack_iff_offset hsc]
  constructor
  · rintro ⟨c, r, ox, oy, hc, hr, hox, hoy, rfl, rfl, hglyph⟩
    obtain ⟨b, hb, hle, hlt, hhole⟩ := (glyphBlack_iff hsc _ ox hoy).1 hglyph
    exact ⟨c, r, b, hc, hr, hb, (inBar_add ..).2 ⟨hle, hlt, hox, hhole⟩⟩
  · rintro ⟨c, r, b, hc, hr, hb, hbar⟩
    have ⟨hy, _, hx, _⟩ := hbar
    obtain ⟨ox, rfl⟩ := Nat.exists_eq_add_of_le hx
    obtain ⟨oy, rfl⟩ := Nat.exists_eq_add_of_le ((Nat.le_add_right ..).trans hy)
    obtain ⟨hle, hlt, hox, hhole⟩ := (inBar_add ..).1 hbar
    have hlast : 4 * b * sc ≤ 4 * 5 * sc := Nat.mul_le_mul_right sc (by omega)
    have hoy : oy < 22 * sc := by omega
    exact ⟨c, r, ox, oy, hc, hr, hox, hoy, rfl, rfl, (glyphBlack_iff hsc _ ox hoy).2 ⟨b, hb, hle, hlt, hhole⟩⟩

end

/-! The drawing (R262 to R264) and its bytes (R270), by pixel. -/

theorem renderBits_getElem? (side : Nat) (data : Array GF) {r x y : Nat} (hx : x < r) (hy : y < r) :
    (renderBits side r data)[y * r + x]? =
      some (pixelBlack side (r / baseDim side) ((r - baseDim side * (r / baseDim side)) / 2) data x y) := by
  refine (getElem?_flatMap_of_length (fun _ => by simp) hx (List.getElem?_range hy)).trans ?_
  rw [List.getElem?_map, List.getElem?_range hx]
  rfl

theorem rgbaOf_getElem? (black : Bool) {c : Nat} (h : c < 4) :
    (rgbaOf black)[c]? = some (if c = 3 then 255 else if black = true then 0 else 255) := by
  revert black c
  decide

/-- The four bytes of a pixel stand at four times its index. -/
theorem rgba_getElem? {bits : List Bool} {i c : Nat} {black : Bool} (hc : c < 4) (h : bits[i]? = some black) :
    (bits.flatMap rgbaOf)[4 * i + c]? = some (if c = 3 then 255 else if black = true then 0 else 255) := by
  rw [Nat.mul_comm 4 i, getElem?_flatMap_of_length (by decide) hc h, rgbaOf_getElem? black hc]

theorem scale_pos {side r : Nat} (h : baseDim side ≤ r) : 0 < r / baseDim side := Nat.div_pos h (Nat.le_add_left 1 _)

/-- The bits of the code at `src` (R272). -/
def State.drawing (s : State) (src : Nat) : List Bool :=
  renderBits s.codeSize.toNat s.res.toNat (symbols s src (s.codeSize.toNat * s.codeSize.toNat)).toArray

theorem State.drawing_length (s : State) (src : Nat) : (s.drawing src).length = s.res.toNat * s.res.toNat :=
  renderBits_length ..

/-- The scale is not 0 (R262), so each pixel of the matrix is black where a shape is. -/
theorem State.drawing_getElem? (s : State) (src : Nat) {x y : Nat} (hfit : baseDim s.codeSize.toNat ≤ s.res.toNat)
    (hx : x < s.res.toNat) (hy : y < s.res.toNat) :
    ∃ black, (s.drawing src)[y * s.res.toNat + x]? = some black ∧ (black = true ↔ drawnBlack s src x y) := by
  refine ⟨_, renderBits_getElem? _ _ hx hy, ?_⟩
  have hsc : 0 < s.res.toNat / baseDim s.codeSize.toNat := scale_pos hfit
  have hdata {c r : Nat} (hc : c < s.codeSize.toNat) (hr : r < s.codeSize.toNat) :
      (symbols s src (s.codeSize.toNat * s.codeSize.toNat)).toArray.getD (c * s.codeSize.toNat + r) 0 =
        byteGF (s.symByte (src + (c * s.codeSize.toNat + r))) := by
    rw [Nat.mul_comm c, Array.getD_eq_getD_getElem?, List.getElem?_toArray, ← List.getD_eq_getElem?_getD]
    exact symbols_getD s src (Nat.mul_add_lt_mul_of_lt_of_lt hc hr)
  simp only [pixelBlack, Bool.or_eq_true, finderBlack_iff, alignBlack_iff, gridBlack_iff hsc, drawnBlack, or_assoc]
  refine or_congr_right (or_congr_right (or_congr_right (or_congr_right ?_)))
  refine exists_congr fun c => exists_congr fun r => exists_congr fun b =>
    and_congr_right fun hc => and_congr_right fun hr => ?_
  rw [hdata hc hr]
  rfl

/-! `RENDER` (R272). -/

section
variable {s : State} {xs1 : XReg} (hpos : 1 ≤ s.codeSize.toNat) (hle : s.codeSize.toNat ≤ 64)
include hpos hle

theorem execRender_of_resolution (hres : Config.wmax < s.res.toNat ∨ Config.hmax < s.res.toNat) :
    execRender xs1 s = s.raise .range s.res.toNat :=
  (if_neg (by omega)).trans (if_pos hres)

variable (hw : s.res.toNat ≤ Config.wmax) (hh : s.res.toNat ≤ Config.hmax)
include hw hh

/-- The side and the resolution pass their checks, and the command goes on. -/
theorem renderSizes_of_le (r : Result) :
    (if s.codeSize.toNat = 0 ∨ 64 < s.codeSize.toNat then s.raise .range s.codeSize.toNat
      else if Config.wmax < s.res.toNat ∨ Config.hmax < s.res.toNat then s.raise .range s.res.toNat else r) = r :=
  (if_neg (by omega)).trans (if_neg (by omega))

theorem execRender_of_not_fits (hsrc : ¬ fits (s.natX xs1) (s.codeSize.toNat * s.codeSize.toNat)) :
    execRender xs1 s = s.raise .addr (s.natX xs1) :=
  (renderSizes_of_le hpos hle hw hh _).trans (symCheck_of_not_fits _ _ hsrc)

variable (hsrc : fits (s.natX xs1) (s.codeSize.toNat * s.codeSize.toNat))
include hsrc

theorem execRender_of_firstBadAt {j : Nat}
    (hbad : firstBadAt s (s.natX xs1) (s.codeSize.toNat * s.codeSize.toNat) j) :
    execRender xs1 s = s.raise .range (s.symByte (s.natX xs1 + j)).toNat := by
  refine ((renderSizes_of_le hpos hle hw hh _).trans (symCheck_of_fits _ _ hsrc)).trans ?_
  rw [firstBad_of_firstBadAt hbad]

variable (hbytes : fieldBytes s (s.natX xs1) (s.codeSize.toNat * s.codeSize.toNat))
include hbytes

theorem execRender_of_small (hsmall : s.res.toNat < baseDim s.codeSize.toNat) :
    execRender xs1 s = s.raise .resSmall (baseDim s.codeSize.toNat) := by
  refine ((renderSizes_of_le hpos hle hw hh _).trans (symCheck_of_fits _ _ hsrc)).trans ?_
  rw [firstBad_of_fieldBytes hbytes]
  exact if_pos (Nat.div_eq_of_lt hsmall)

theorem execRender_of_fits (hfit : baseDim s.codeSize.toNat ≤ s.res.toNat) :
    execRender xs1 s = State.complete { (s.storeBit 0 (s.drawing (s.natX xs1))).storeImg 0
      ((s.drawing (s.natX xs1)).flatMap rgbaOf) with imgW := s.res, imgH := s.res } := by
  refine ((renderSizes_of_le hpos hle hw hh _).trans (symCheck_of_fits _ _ hsrc)).trans ?_
  rw [firstBad_of_fieldBytes hbytes, symBytes_map_byteGF]
  exact if_neg (scale_pos hfit).ne'

end

/-- Settles O52: each clause is the case of the operands the checks come to. The drawing is stored from cell 0 of `BIT` and, four
bytes a pixel, from byte 0 of `IMG`, and each of its pixels is black where a shape of R264 to R269 is. -/
theorem renderEffect : Obligations.RenderEffect := by
  unfold Obligations.RenderEffect
  intro xs1 s src side r i
  refine ⟨decode_encode i, fun hside => if_pos hside, fun hpos hle hres => execRender_of_resolution hpos hle hres,
    fun hpos hle hw hh => ⟨fun hsrc => execRender_of_not_fits hpos hle hw hh hsrc,
      fun hsrc => ⟨fun j hbad => execRender_of_firstBadAt hpos hle hw hh hsrc hbad,
        fun hbytes => ⟨fun hsmall => execRender_of_small hpos hle hw hh hsrc hbytes hsmall, fun hfit => ?_⟩⟩⟩⟩
  have hbits : (s.drawing src).length = r * r := s.drawing_length src
  have himg : ((s.drawing src).flatMap rgbaOf).length = 4 * (r * r) := by rw [rgba_length, hbits]
  refine ⟨_, execRender_of_fits hpos hle hw hh hsrc hbytes hfit, fun x y hx hy => ?_, fun x y c hx hy hc => ?_,
    fun k hk => memRead_memWrite_zero_of_le _ s.bit (hbits.trans_le hk),
    fun k hk => memRead_memWrite_zero_of_le _ s.img (himg.trans_le hk), rfl⟩
  · obtain ⟨_, hpixel, hdrawn⟩ := s.drawing_getElem? src hfit hx hy
    obtain rfl := memRead_memWrite_zero_of_getElem? (Config.bitFill s.resets) s.bit hpixel
    exact hdrawn
  · obtain ⟨_, hpixel, -⟩ := s.drawing_getElem? src hfit hx hy
    obtain rfl := memRead_memWrite_zero_of_getElem? (Config.bitFill s.resets) s.bit hpixel
    exact memRead_memWrite_zero_of_getElem? _ s.img (rgba_getElem? hc hpixel)

end Sys2Proof.Machine
end

section
/-! Fault entry (R381, R390), and the host's start and reset of the engine (R32, R421 to R424). -/

open Sys2Proof.Certificates

namespace Sys2Proof.Machine

/-! The bits of `STATUS` after fault entry and after a start (R33). -/

section
variable (w : Word)

@[simp] theorem faultBit_statusFault : faultBit (statusFault w) = true := by simp [faultBit, statusFault]
@[simp] theorem busyBit_statusFault : busyBit (statusFault w) = false := by simp [busyBit, statusFault]
@[simp] theorem doneBit_statusFault : doneBit (statusFault w) = doneBit w := by simp [doneBit, statusFault]

@[simp] theorem busyBit_statusStart : busyBit (statusStart w) = true := by simp [busyBit, statusStart]
@[simp] theorem doneBit_statusStart : doneBit (statusStart w) = false := by simp [doneBit, statusStart, statusClear]
@[simp] theorem faultBit_statusStart : faultBit (statusStart w) = false := by simp [faultBit, statusStart, statusClear]

/-- A start clears what `CLR` clears. -/
@[simp] theorem statusStart_statusClear : statusStart (statusClear w) = statusStart w := by
  simp [statusStart, statusClear, BitVec.and_assoc]

end

/-! The numbers of the codes (R381). -/

theorem mem_errCodes_iff {c : ErrCode} {num : Nat} : (c, num) ∈ errCodes ↔ num = errNumber c := by
  cases c <;> simp [errCodes, errNumber]

theorem errNumber_lt (c : ErrCode) : errNumber c < 2 ^ 32 := by cases c <;> decide

/-- Settles O7: what fault entry writes fits its CSRs, and of `STATUS` it sets one bit and clears one. -/
theorem faultEntry : Obligations.FaultEntry := by
  unfold Obligations.FaultEntry
  refine ⟨fun c => ⟨_, mem_errCodes_iff.2 rfl⟩, fun s c num n hnum hn => ?_⟩
  obtain rfl := mem_errCodes_iff.1 hnum
  refine ⟨s.faulted c n, rfl, Nat.mod_eq_of_lt (errNumber_lt c), rfl, Nat.mod_eq_of_lt hn, faultBit_statusFault _,
    busyBit_statusFault _, doneBit_statusFault _, fun hbusy => ?_, rfl⟩
  rw [State.faulted_status, hbusy]
  decide

/-- A write of `CTRL` with `START` starts the engine, with or without `CLR` (R32, R424). -/
theorem State.writeCtrl_of_start (s : State) {v : Word} (h : v.getLsbD 0 = true) :
    s.writeCtrl v = State.started { s with ctrl := ctrlKept v } := by
  rw [s.writeCtrl_of_bits h rfl]
  cases v.getLsbD 1
  case false => rfl
  case true => simp [State.started, State.cleared]

theorem step_of_hostTurn {s : State} {h : HostMove} {rest : List HostMove} (hturn : s.hostTurn h rest) :
    step s = ({ s with hostq := rest } : State).hostAct h := by
  obtain ⟨hidle, hq⟩ := hturn
  simp [step, hidle, idleTurn, hq]

/-- A reset passes whichever agent has the turn (R421, R422). -/
theorem step_of_reset {s : State} {rest : List HostMove} (hq : s.hostq = .reset :: rest) :
    step s = .next ({ s with hostq := rest } : State).hostReset := by
  cases hbusy : busyBit s.status
  case false => exact step_of_hostTurn ⟨hbusy, hq⟩
  case true => simp [step, hbusy, busyTurn, hq, State.hostAct]

/-- Settles O17: the write of `CTRL` is the only move, and with `START` it is a start. -/
theorem startEffect : Obligations.StartEffect := by
  unfold Obligations.StartEffect
  intro s v rest hturn hstart
  have hidle := hturn.1
  have hstep : step s = .next (State.started { s with hostq := rest, ctrl := ctrlKept (v.setWidth 32) }) := by
    have hw : (v.setWidth 32 : Word).getLsbD 0 = true := by simpa using hstart
    have hwrite := State.writeCtrl_of_start { s with hostq := rest } hw
    simpa [State.hostAct, hidle, State.writeCsr, hwrite] using step_of_hostTurn hturn
  refine ⟨_, hstep, busyBit_statusStart _, doneBit_statusStart _, faultBit_statusStart _, fun hs => ?_, rfl⟩
  simp [statusStart, hs.statusClear_of_idle hidle]

/-- Settles O21: after a reset no memory has a written cell. -/
theorem hostReset : Obligations.HostReset := by
  unfold Obligations.HostReset
  intro s rest hq
  exact ⟨_, step_of_reset hq, rfl, fun _ => rfl, fun _ => rfl, fun _ => rfl, fun _ => rfl, fun _ => rfl, fun _ => rfl,
    fun _ => rfl⟩

end Sys2Proof.Machine
end

section
/-! The checks of the dimensions, and matrices by cell (R35, R282 to R284). -/

open Sys2Proof.Certificates

namespace Sys2Proof.Machine

/-! The checks of the dimensions, of any command that makes them first (R282, R284, R287). -/

section
variable {s : State}

theorem dimFault_eq_of_dims (s t : State) (hw : t.imgW = s.imgW) (hh : t.imgH = s.imgH) : t.dimFault = s.dimFault := by
  unfold State.dimFault State.width State.height
  rw [hw, hh]

theorem blockFault_eq_of_dims (s t : State) (hw : t.imgW = s.imgW) (hh : t.imgH = s.imgH) :
    t.blockFault = s.blockFault := by
  unfold State.blockFault State.width State.height
  rw [dimFault_eq_of_dims s t hw hh, hw, hh]

theorem dimFault_of_dimsOk (h : dimsOk s) : s.dimFault = none := by
  obtain ⟨hw, hh⟩ := h
  simp [State.dimFault, Nat.not_lt.2 hw, Nat.not_lt.2 hh]

theorem faultsAs_of_dimFault {i : Instr} (h : ∀ e, s.dimFault = some e → exec i s = s.raise e.1 e.2) :
    (Config.wmax < s.width → faultsAs i s .range s.width) ∧
    (s.width ≤ Config.wmax → Config.hmax < s.height → faultsAs i s .range s.height) := by
  refine ⟨fun hw => h (.range, s.width) ?_, fun hw hh => h (.range, s.height) ?_⟩
  · simp [State.dimFault, hw]
  · simp [State.dimFault, Nat.not_lt.2 hw, hh]

theorem blockFault_of_dimFault {e : ErrCode × Nat} (h : s.dimFault = some e) : s.blockFault = some e := by
  unfold State.blockFault
  rw [h]

theorem blockFault_of_dimsOk (h : dimsOk s) (hw : 80 ≤ s.width) (hh : 80 ≤ s.height) : s.blockFault = none := by
  rw [s.blockFault_eq (dimFault_of_dimsOk h), if_neg (Nat.not_lt.2 hw), if_neg (Nat.not_lt.2 hh)]

theorem faultsAs_of_blockFault {i : Instr} (h : ∀ e, s.blockFault = some e → exec i s = s.raise e.1 e.2) :
    (Config.wmax < s.width → faultsAs i s .range s.width) ∧
    (s.width ≤ Config.wmax → Config.hmax < s.height → faultsAs i s .range s.height) ∧
    (dimsOk s → s.width < 80 → faultsAs i s .imgSmall s.width) ∧
    (dimsOk s → 80 ≤ s.width → s.height < 80 → faultsAs i s .imgSmall s.height) := by
  obtain ⟨hwidth, hheight⟩ := faultsAs_of_dimFault fun e he => h e (blockFault_of_dimFault he)
  refine ⟨hwidth, hheight, fun hdims hw => h (.imgSmall, s.width) ?_, fun hdims hw hh => h (.imgSmall, s.height) ?_⟩
  · rw [s.blockFault_eq (dimFault_of_dimsOk hdims), if_pos hw]
  · rw [s.blockFault_eq (dimFault_of_dimsOk hdims), if_neg (Nat.not_lt.2 hw), if_pos hh]

end

/-! Matrices by cell: the cell `(x, y)` of `w` columns has the index `y * w + x`. -/

section
variable {w h x y : Nat} (hx : x < w) (hy : y < h)
include hx hy

theorem cellIndex_lt : y * w + x < w * h := by
  have := Nat.mul_add_lt_mul_of_lt_of_lt hy hx
  rwa [Nat.mul_comm y w, Nat.mul_comm w h]

theorem getElem?_flatMap_range_map {α : Type} (f : Nat → Nat → α) :
    ((List.range h).flatMap fun y => (List.range w).map fun x => f x y)[y * w + x]? = some (f x y) := by
  refine (getElem?_flatMap_of_length (fun _ => by simp) hx (List.getElem?_range hy)).trans ?_
  rw [List.getElem?_map, List.getElem?_range hx]
  rfl

end

end Sys2Proof.Machine
end

section
/-! The binarizer (R280 to R295): the cells of each of its three matrices, and the four commands, each its checks in order, then
its stores. -/

open Sys2Proof.Certificates

namespace Sys2Proof.Machine

/-! The luma matrix (R281 to R283). -/

theorem State.lumaMatrix_getElem? (s : State) {i : Nat} (hi : i < s.width * s.height) :
    s.lumaMatrix[i]? = some (lumaOf (channel s (s.imgByte (4 * i))) (channel s (s.imgByte (4 * i + 1)))
      (channel s (s.imgByte (4 * i + 2)))) := by
  rw [State.lumaMatrix, List.getElem?_map, List.getElem?_range hi, Option.map_some, pixelLuma,
    s.imgCells_getD _ _ _ (by omega), s.imgCells_getD _ _ _ (by omega), s.imgCells_getD _ _ _ (by omega)]
  rfl

/-! The threshold table (R285 to R287). -/

theorem foldl_add_eq_add_sum {α : Type} (f : α → Nat) (l : List α) (n : Nat) :
    l.foldl (fun acc a => acc + f a) n = n + (l.map f).sum := by
  induction l generalizing n with
  | nil => rfl
  | cons a l ih => rw [List.foldl_cons, ih, List.map_cons, List.sum_cons, Nat.add_assoc]

/-- The block's sum read from the matrix is the sum of its cells, of a block inside the matrix. -/
theorem State.blockSum_lumCells (s : State) {x y : Nat} (hx : x < s.width - 79) (hy : y < s.height - 79) :
    blockSum s.width (s.lumCells (s.width * s.height)) x y = lumBlock s x y := by
  simp only [blockSum, foldl_add_eq_add_sum, Nat.zero_add, lumBlock]
  refine congrArg List.sum (List.map_congr_left fun j hj => congrArg List.sum (List.map_congr_left fun i hi => ?_))
  rw [List.mem_range] at hi hj
  rw [s.lumCells_getD _ _ _ (cellIndex_lt (by omega) (by omega))]

theorem threshTable_getElem? {w h x y : Nat} (lum : Array Byte) (hx : x < w - 79) (hy : y < h - 79) :
    (threshTable w h lum)[y * (w - 79) + x]? = some (threshAt w lum x y) :=
  getElem?_flatMap_range_map hx hy _

/-! The decided thresholds (R289, R290): `decideRows` gives each pixel the threshold its neighbours' give it. -/

section
variable (w h : Nat) (lum : Array Byte) (thr : Array F64)

/-- A pixel's threshold in its row: `left :: row` and `upLeft :: ups` are the row and the row above, one column on. -/
theorem decideRow_getD (y : Nat) {xs : List Nat} (left upLeft : F64) (ups : List F64) {i : Nat} (hi : i < xs.length) :
    let row := decideRow w h lum thr y xs left upLeft ups
    row.getD i 0 = decide290 (xs.getD i 0) y (blockThresh w h thr (xs.getD i 0) y) (lumNum w lum (xs.getD i 0) y)
      (ups.getD i 0) ((left :: row).getD i 0) ((upLeft :: ups).getD i 0) := by
  induction xs generalizing left upLeft ups i with
  | nil => cases hi
  | cons x xs ih =>
    cases i with
    | zero => cases ups <;> rfl
    | succ i =>
      have hrest := ih (decide290 x y (blockThresh w h thr x y) (lumNum w lum x y) (ups.headD 0) left upLeft)
        (ups.headD 0) ups.tail (Nat.lt_of_succ_lt_succ hi)
      cases ups with
      | nil => cases i <;> exact hrest
      | cons u us => exact hrest

/-- A row of thresholds from the row above it. -/
theorem decideRows_getD {ys : List Nat} (above : List F64) {j : Nat} (hj : j < ys.length) :
    let rows := decideRows w h lum thr ys above
    rows.getD j [] = decideRow w h lum thr (ys.getD j 0) (List.range w) 0 0 ((above :: rows).getD j []) := by
  induction ys generalizing above j with
  | nil => cases hj
  | cons y ys ih =>
    cases j with
    | zero => rfl
    | succ j => exact ih _ (Nat.lt_of_succ_lt_succ hj)

/-- The decided threshold of the pixel `(x, y)`. -/
def decidedAt (x y : Nat) : F64 := ((decideRows w h lum thr (List.range h) []).getD y []).getD x 0

/-- The neighbours count only where there is a row above and a column before (R290). -/
theorem decide290_congr {x y : Nat} {tau lv up left upLeft up' left' upLeft' : F64}
    (hn : 0 < x → 0 < y → up = up' ∧ left = left' ∧ upLeft = upLeft') :
    decide290 x y tau lv up left upLeft = decide290 x y tau lv up' left' upLeft' := by
  by_cases hpos : 0 < x ∧ 0 < y
  · obtain ⟨rfl, rfl, rfl⟩ := hn hpos.1 hpos.2
    rfl
  · simp [decide290, hpos]

variable {w h} {x y : Nat} (hx : x < w) (hy : y < h)
include hx hy

theorem decidedAt_eq : decidedAt w h lum thr x y = decide290 x y (blockThresh w h thr x y) (lumNum w lum x y)
    (decidedAt w h lum thr x (y - 1)) (decidedAt w h lum thr (x - 1) y) (decidedAt w h lum thr (x - 1) (y - 1)) := by
  have hxs : (List.range w).getD x 0 = x := by simp [hx]
  have hys : (List.range h).getD y 0 = y := by simp [hy]
  have hrow := decideRows_getD w h lum thr [] (ys := List.range h) (j := y) (by simpa using hy)
  have hcell := decideRow_getD w h lum thr y 0 0
    (([] :: decideRows w h lum thr (List.range h) []).getD y []) (xs := List.range w) (i := x) (by simpa using hx)
  rw [hys] at hrow
  dsimp only at hrow hcell
  rw [← hrow, hxs] at hcell
  refine hcell.trans (decide290_congr fun hx0 hy0 => ?_)
  obtain ⟨x, rfl⟩ := Nat.exists_eq_succ_of_ne_zero hx0.ne'
  obtain ⟨y, rfl⟩ := Nat.exists_eq_succ_of_ne_zero hy0.ne'
  exact ⟨rfl, rfl, rfl⟩

end

/-- The bit matrix compares each pixel with its decided threshold (R291). -/
theorem binBits_eq (w h : Nat) (lum : Array Byte) (thr : Array F64) : binBits w h lum thr =
    (List.range h).flatMap fun y => (List.range w).map fun x => Fp.lt (lumNum w lum x y) (decidedAt w h lum thr x y) := by
  obtain ⟨hlen, hrow⟩ := decideRows_lengths w h lum thr (List.range h) []
  rw [binBits, List.flatMap_def, List.flatMap_def]
  congr 1
  refine List.ext_getElem (by simpa using hlen) fun y hy _ => ?_
  simp only [List.length_map, List.length_zipIdx] at hy
  refine List.ext_getElem (by simpa using hrow _ (List.getElem_mem hy)) fun x hx _ => ?_
  simp only [List.getElem_map, List.getElem_zipIdx, List.length_map, List.length_zipIdx] at hx
  simp [decidedAt, hy, hx]

/-! The decided thresholds of the state (R289, R290). -/

/-- The decided thresholds `BINZ` uses (R292). -/
def State.decidedAt (s : State) (x y : Nat) : F64 :=
  Machine.decidedAt s.width s.height (s.lumCells (s.width * s.height)) (s.thrCells ((s.width - 79) * (s.height - 79))) x y

section
variable (s : State) {x y : Nat} (hx : x < s.width) (hy : y < s.height)
include hx hy

theorem State.lumNum_lumCells : lumNum s.width (s.lumCells (s.width * s.height)) x y = lumAt s x y := by
  rw [lumNum, s.lumCells_getD _ _ _ (cellIndex_lt hx hy)]
  rfl

theorem State.blockThresh_thrCells (hw : 80 ≤ s.width) (hh : 80 ≤ s.height) :
    blockThresh s.width s.height (s.thrCells ((s.width - 79) * (s.height - 79))) x y = tau0 s x y :=
  s.thrCells_getD _ _ _ (cellIndex_lt (by simp only [clampNat]; omega) (by simp only [clampNat]; omega))

end

theorem State.decided_decidedAt (s : State) (hw : 80 ≤ s.width) (hh : 80 ≤ s.height) : decided s s.decidedAt := by
  intro x y hx hy
  rw [← s.blockThresh_thrCells hx hy hw hh, ← s.lumNum_lumCells hx hy]
  exact decidedAt_eq _ _ hx hy

/-! The commands. -/

section
variable (s : State)

theorem execLuma_of_dimFault {e : ErrCode × Nat} (h : s.dimFault = some e) : execLuma s = s.raise e.1 e.2 := by
  unfold execLuma
  rw [h]

theorem execLuma_of_dimsOk (h : dimsOk s) : execLuma s = s.withLuma.complete := by
  unfold execLuma
  rw [dimFault_of_dimsOk h]

theorem execThresh_of_blockFault {e : ErrCode × Nat} (h : s.blockFault = some e) : execThresh s = s.raise e.1 e.2 := by
  unfold execThresh
  rw [h]

theorem execBinz_of_blockFault {e : ErrCode × Nat} (h : s.blockFault = some e) : execBinz s = s.raise e.1 e.2 := by
  unfold execBinz
  rw [h]

theorem execBinarize_of_blockFault {e : ErrCode × Nat} (h : s.blockFault = some e) :
    execBinarize s = s.raise e.1 e.2 := by
  unfold execBinarize
  rw [h]

variable (h : s.blockFault = none)
include h

theorem execThresh_of_fits : execThresh s = s.withThresh.complete := by
  unfold execThresh
  rw [h]

theorem execBinz_of_fits : execBinz s = s.withBinz.complete := by
  unfold execBinz
  rw [h]

theorem execBinarize_of_fits : execBinarize s = s.withLuma.withThresh.withBinz.complete := by
  unfold execBinarize
  rw [h]

end

/-- Settles O45: one store of the luma matrix from cell 0 of `LUM`. -/
theorem lumaEffect : Obligations.LumaEffect := by
  unfold Obligations.LumaEffect
  refine ⟨decode_encode .luma, fun s => ?_⟩
  obtain ⟨hwidth, hheight⟩ := faultsAs_of_dimFault (s := s) (i := .luma) fun _ he => execLuma_of_dimFault s he
  refine ⟨hwidth, hheight, fun hdims => ⟨_, execLuma_of_dimsOk s hdims, fun x y hx hy => ?_, fun k hk => ?_, rfl⟩⟩
  · exact memRead_memWrite_zero_of_getElem? _ s.lum (s.lumaMatrix_getElem? (cellIndex_lt hx hy))
  · exact memRead_memWrite_zero_of_le _ s.lum (by rwa [lumaMatrix_length])

/-- Settles O46: one store of the table from cell 0 of `THR`; an entry's block lies in the image. -/
theorem threshEffect : Obligations.ThreshEffect := by
  unfold Obligations.ThreshEffect
  refine ⟨decode_encode .thresh, fun s => ?_⟩
  obtain ⟨hwidth, hheight, hnarrow, hlow⟩ :=
    faultsAs_of_blockFault (s := s) (i := .thresh) fun _ he => execThresh_of_blockFault s he
  refine ⟨hwidth, hheight, hnarrow, hlow, fun hdims hw hh =>
    ⟨_, execThresh_of_fits s (blockFault_of_dimsOk hdims hw hh), fun x y hx hy => ?_, fun k hk => ?_, rfl⟩⟩
  · rw [← s.blockSum_lumCells hx hy]
    exact memRead_memWrite_zero_of_getElem? _ s.thr (threshTable_getElem? _ hx hy)
  · exact memRead_memWrite_zero_of_le _ s.thr (by rwa [threshTable_length, Nat.mul_comm])

/-- Settles O47: one store of the bits from cell 0 of `BIT`; the thresholds decided row by row obey R290 at every pixel. -/
theorem binzEffect : Obligations.BinzEffect := by
  unfold Obligations.BinzEffect
  refine ⟨decode_encode .binz, fun s => ?_⟩
  obtain ⟨hwidth, hheight, hnarrow, hlow⟩ :=
    faultsAs_of_blockFault (s := s) (i := .binz) fun _ he => execBinz_of_blockFault s he
  refine ⟨hwidth, hheight, hnarrow, hlow, fun hdims hw hh =>
    ⟨_, s.decidedAt, execBinz_of_fits s (blockFault_of_dimsOk hdims hw hh), s.decided_decidedAt hw hh, fun x y hx hy => ?_,
      fun k hk => ?_, rfl⟩⟩
  · rw [← s.lumNum_lumCells hx hy]
    refine memRead_memWrite_zero_of_getElem? _ s.bit ?_
    rw [binBits_eq]
    exact getElem?_flatMap_range_map hx hy _
  · exact memRead_memWrite_zero_of_le _ s.bit (by rwa [binBits_length, Nat.mul_comm])

/-- Settles O48: the three commands make the same checks of the same dimensions, and none reads `CP`. -/
theorem binarizeEffect : Obligations.BinarizeEffect := by
  unfold Obligations.BinarizeEffect
  refine ⟨decode_encode .binarize, fun s => ?_⟩
  obtain ⟨hwidth, hheight, hnarrow, hlow⟩ :=
    faultsAs_of_blockFault (s := s) (i := .binarize) fun _ he => execBinarize_of_blockFault s he
  refine ⟨hwidth, hheight, hnarrow, hlow, fun hdims hw hh => ?_⟩
  have hfits := blockFault_of_dimsOk hdims hw hh
  have hluma : s.withLuma.completed.blockFault = none := by
    rw [blockFault_eq_of_dims s s.withLuma.completed rfl rfl, hfits]
  have hthresh : s.withLuma.completed.withThresh.completed.blockFault = none := by
    rw [blockFault_eq_of_dims s.withLuma.completed s.withLuma.completed.withThresh.completed rfl rfl, hluma]
  exact ⟨_, _, _, execLuma_of_dimsOk s hdims, execThresh_of_fits s.withLuma.completed hluma,
    execBinz_of_fits s.withLuma.completed.withThresh.completed hthresh, execBinarize_of_fits s hfits⟩

end Sys2Proof.Machine
end

section
/-! Exact `NUM` arithmetic (R13): a result that is a whole number of steps of `2^e`, fewer than 2^53 of them, is not rounded. -/

open Sys2Proof.Certificates

namespace Sys2Proof.Machine

theorem natAbs_mul_two_pow (k : Int) (e : Nat) : (k * 2 ^ e).natAbs = k.natAbs * 2 ^ e := by
  rw [Int.natAbs_mul, Int.natAbs_pow]
  rfl

theorem mul_two_pow_neg_iff (k : Int) (e : Nat) : k * 2 ^ e < 0 ↔ k < 0 :=
  ⟨fun h => neg_of_mul_neg_left h (by positivity), fun h => mul_neg_of_neg_of_pos h (by positivity)⟩

theorem Fp.natAbs_units (a : F64) : (Fp.units a).natAbs = Fp.mag a := by
  unfold Fp.units
  split <;> omega

theorem Fp.isNeg_eq_of_units_ne_zero {a : F64} (h : Fp.units a ≠ 0) : Fp.isNeg a = decide (Fp.units a < 0) := by
  unfold Fp.units at *
  split at h
  case isTrue hneg => simp [hneg]; omega
  case isFalse hpos => simp [hpos]

theorem Fp.units_zero (neg : Bool) : Fp.isFinite (Fp.zero neg) = true ∧ Fp.units (Fp.zero neg) = 0 := by
  cases neg <;> decide

/-- A number of up to 53 bits times a power of two is a magnitude. -/
theorem Fp.exists_mag_eq {m e : Nat} (hm : m < 2 ^ 53) (he : e ≤ 2044) :
    ∃ c, Fp.isFinite c = true ∧ Fp.mag c = m * 2 ^ e := by
  have packed {q sh : Nat} (hq : sh = 0 ∨ 2 ^ 52 ≤ q) (hlt : q < 2 ^ 53) (hsh : sh ≤ 2044) :
      ∃ c, Fp.isFinite c = true ∧ Fp.mag c = q * 2 ^ sh := by
    refine ⟨Fp.withSign false (sh * 2 ^ 52 + q), ?_, Fp.mag_withSign false hq hlt.le (by omega)⟩
    rw [Fp.isFinite_iff, Fp.expField_withSign false (by omega)]
    omega
  induction e generalizing m with
  | zero => exact packed (.inl rfl) hm (Nat.zero_le _)
  | succ e ih =>
    by_cases hnormal : 2 ^ 52 ≤ m
    · exact packed (.inr hnormal) hm he
    · obtain ⟨c, hc, hmag⟩ := ih (m := 2 * m) (by omega) (by omega)
      exact ⟨c, hc, by rw [hmag, pow_succ]; ring⟩

theorem mul_two_pow_lt {m e j : Nat} (hm : m < 2 ^ 53) (he : 53 + e ≤ j) : m * 2 ^ e < 2 ^ j := by
  calc m * 2 ^ e < 2 ^ 53 * 2 ^ e := Nat.mul_lt_mul_of_pos_right hm (Nat.two_pow_pos e)
    _ = 2 ^ (53 + e) := (pow_add ..).symm
    _ ≤ 2 ^ j := Nat.pow_le_pow_right (by decide) he

/-- A quotient that needs no rounding is met exactly. -/
theorem Fp.units_round {k : Int} {e num den : Nat} {sgn : Bool} (hden : 0 < den) (hk : k.natAbs < 2 ^ 53)
    (he : e ≤ 1991) (hnum : num = k.natAbs * 2 ^ e * den) (hsgn : k ≠ 0 → sgn = decide (k < 0)) :
    Fp.isFinite (Fp.round sgn num den) = true ∧ Fp.units (Fp.round sgn num den) = k * 2 ^ e := by
  have hround := Fp.round_roundedOnce sgn num hden
  have hlt : k.natAbs * 2 ^ e < 2 ^ 2044 := mul_two_pow_lt hk (by omega)
  have hfin := Fp.isFinite_of_roundedOnce hround (by rw [hnum]; exact Nat.mul_lt_mul_of_pos_right hlt hden)
  obtain ⟨hneg, hnear, -⟩ := hround
  obtain ⟨c, hc, hmag⟩ := Fp.exists_mag_eq hk (show e ≤ 2044 by omega)
  have hexact : Fp.mag (Fp.round sgn num den) = k.natAbs * 2 ^ e := by
    have hdist := (hnear hfin c hc).1
    rw [hmag, ← Int.natCast_mul, ← Int.natCast_mul, ← hnum] at hdist
    exact Nat.eq_of_mul_eq_mul_right hden (by omega)
  refine ⟨hfin, ?_⟩
  have habs : ((k.natAbs * 2 ^ e : Nat) : Int) = (k.natAbs : Int) * 2 ^ e := by push_cast; rfl
  rw [Fp.units, hneg, hexact, habs]
  rcases Int.lt_trichotomy k 0 with hk0 | rfl | hk0
  · rw [hsgn hk0.ne, if_pos (decide_eq_true hk0), Int.ofNat_natAbs_of_nonpos hk0.le, Int.neg_mul, Int.neg_neg]
  · simp
  · rw [hsgn hk0.ne', if_neg (by simpa using hk0.le), Int.natAbs_of_nonneg hk0.le]

theorem Fp.units_ofInt {z : Int} (hz : z.natAbs < 2 ^ 53) :
    Fp.isFinite (Fp.ofInt z) = true ∧ Fp.units (Fp.ofInt z) = z * 2 ^ 1074 :=
  Fp.units_round Nat.one_pos hz (by decide) (by rw [Fp.oneUnits_eq, Nat.mul_one]) fun _ => rfl

theorem Fp.units_ofNat {n : Nat} (hn : n < 2 ^ 53) :
    Fp.isFinite (Fp.ofNat n) = true ∧ Fp.units (Fp.ofNat n) = n * 2 ^ 1074 :=
  Fp.units_round (k := n) Nat.one_pos hn (by decide) (by rw [Fp.oneUnits_eq, Nat.mul_one]; rfl) fun _ => by simp

section
variable {a b : F64} (ha : Fp.isFinite a = true)
include ha

theorem Fp.units_half {k : Int} {e : Nat} (hk : k.natAbs < 2 ^ 53) (he : e ≤ 1991)
    (h : Fp.units a = k * 2 ^ (e + 1)) :
    Fp.isFinite (Fp.div a (Fp.ofNat 2)) = true ∧ Fp.units (Fp.div a (Fp.ofNat 2)) = k * 2 ^ e := by
  obtain ⟨hfin, hunits⟩ := Fp.units_ofNat (n := 2) (by decide)
  have hmag : Fp.mag (Fp.ofNat 2) = 2 * 2 ^ 1074 := by
    rw [← Fp.natAbs_units, hunits, natAbs_mul_two_pow, Int.natAbs_natCast]
  have hpos : Fp.isNeg (Fp.ofNat 2) = false := by
    rw [Fp.isNeg_eq_of_units_ne_zero (by rw [hunits]; positivity), hunits]
    exact decide_eq_false (not_lt.2 (by positivity))
  rw [Fp.div_of_isFinite ha hfin (by rw [hmag]; positivity), hpos, hmag]
  refine Fp.units_round (by positivity) hk he ?_ fun hk0 => ?_
  · rw [← Fp.natAbs_units, h, natAbs_mul_two_pow, Fp.oneUnits_eq, pow_succ]
    simp only [Nat.mul_assoc]
  · have hne : Fp.units a ≠ 0 := by rw [h]; exact mul_ne_zero hk0 (by positivity)
    rw [Fp.isNeg_eq_of_units_ne_zero hne, h, Bool.bne_false, decide_eq_decide.2 (mul_two_pow_neg_iff k _)]

variable (hb : Fp.isFinite b = true)
include hb

theorem Fp.units_add {k : Int} {e : Nat} (hk : k.natAbs < 2 ^ 53) (he : e ≤ 1991)
    (h : Fp.units a + Fp.units b = k * 2 ^ e) :
    Fp.isFinite (Fp.add a b) = true ∧ Fp.units (Fp.add a b) = k * 2 ^ e := by
  rw [Fp.add_of_isFinite ha hb, h]
  split
  case isTrue h0 => rw [h0]; exact Fp.units_zero _
  case isFalse h0 =>
    refine Fp.units_round Nat.one_pos hk he ?_ fun _ => ?_
    · rw [natAbs_mul_two_pow, Nat.mul_one]
    · exact decide_eq_decide.2 (mul_two_pow_neg_iff k e)

theorem Fp.units_sub {k : Int} {e : Nat} (hk : k.natAbs < 2 ^ 53) (he : e ≤ 1991)
    (h : Fp.units a - Fp.units b = k * 2 ^ e) :
    Fp.isFinite (Fp.sub a b) = true ∧ Fp.units (Fp.sub a b) = k * 2 ^ e :=
  Fp.units_add ha (b := Fp.neg b) (by rwa [Fp.isFinite_neg]) hk he (by rwa [Fp.units_neg, ← Int.sub_eq_add_neg])

theorem Fp.units_mul {k : Int} {e : Nat} (hk : k.natAbs < 2 ^ 53) (he : e ≤ 1991)
    (h : Fp.units a * Fp.units b = k * 2 ^ e * 2 ^ 1074) :
    Fp.isFinite (Fp.mul a b) = true ∧ Fp.units (Fp.mul a b) = k * 2 ^ e := by
  rw [Fp.mul_of_isFinite ha hb]
  refine Fp.units_round Fp.oneUnits_pos hk he ?_ fun hk0 => ?_
  · rw [← Fp.natAbs_units, ← Fp.natAbs_units, ← Int.natAbs_mul, h, natAbs_mul_two_pow, natAbs_mul_two_pow, Fp.oneUnits_eq]
  · have hne : Fp.units a * Fp.units b ≠ 0 := by
      rw [h]
      exact mul_ne_zero (mul_ne_zero hk0 (by positivity)) (by positivity)
    have hsign : decide (k < 0) = decide (Fp.units a * Fp.units b < 0) := by
      rw [h, decide_eq_decide, mul_two_pow_neg_iff, mul_two_pow_neg_iff]
    rw [Fp.isNeg_eq_of_units_ne_zero (left_ne_zero_of_mul hne), Fp.isNeg_eq_of_units_ne_zero (right_ne_zero_of_mul hne),
      hsign]
    rcases Int.lt_or_gt_of_ne (left_ne_zero_of_mul hne) with hx | hx <;>
      rcases Int.lt_or_gt_of_ne (right_ne_zero_of_mul hne) with hy | hy <;>
      simp [mul_neg_iff, hx, hy, hx.le, hy.le, not_lt.2]

end

/-- A finite value of at most `b` whole steps of `2^e` units. -/
def Fp.OnGrid (e b : Nat) (v : F64) : Prop :=
  Fp.isFinite v = true ∧ ∃ k : Int, k.natAbs ≤ b ∧ Fp.units v = k * 2 ^ e

section
variable {e b : Nat} {u v : F64} (hu : Fp.OnGrid e b u) (hv : Fp.OnGrid e b v)
include hu hv

/-- Differences on a grid are exact. -/
theorem Fp.OnGrid.sub (he : e ≤ 1991) (hb : 2 * b < 2 ^ 53) :
    Fp.OnGrid e (2 * b) (Fp.sub u v) ∧ Fp.units (Fp.sub u v) = Fp.units u - Fp.units v := by
  obtain ⟨hfu, k, hk, hunits⟩ := hu
  obtain ⟨hfv, l, hl, hvunits⟩ := hv
  have hdiff : Fp.units u - Fp.units v = (k - l) * 2 ^ e := by rw [hunits, hvunits, Int.sub_mul]
  obtain ⟨hfin, hsub⟩ := Fp.units_sub hfu hfv (by omega) he hdiff
  exact ⟨⟨hfin, k - l, by omega, hsub⟩, hsub.trans hdiff.symm⟩

/-- Products on a grid are exact, on the grid of the squared step. -/
theorem Fp.OnGrid.mul {f : Nat} (hf : e + e = f + 1074) (he : f ≤ 1991) (hb : b * b < 2 ^ 53) :
    Fp.OnGrid f (b * b) (Fp.mul u v) ∧ Fp.units (Fp.mul u v) * 2 ^ 1074 = Fp.units u * Fp.units v := by
  obtain ⟨hfu, k, hk, hunits⟩ := hu
  obtain ⟨hfv, l, hl, hvunits⟩ := hv
  have hprod : Fp.units u * Fp.units v = k * l * 2 ^ f * 2 ^ 1074 := by
    rw [hunits, hvunits, mul_mul_mul_comm, ← pow_add, hf, pow_add, mul_assoc (k * l)]
  have hkl : (k * l).natAbs ≤ b * b := by
    rw [Int.natAbs_mul]
    exact Nat.mul_le_mul hk hl
  obtain ⟨hfin, hmul⟩ := Fp.units_mul hfu hfv (by omega) he hprod
  exact ⟨⟨hfin, k * l, hkl, hmul⟩, by rw [hmul, hprod]⟩

end

end Sys2Proof.Machine
end

section
/-! The distance of two points (R312): it does not depend on their order. Comparisons of values that are no NaN are total. -/

namespace Sys2Proof.Machine

/-! The order of `NUM` (R17, U13). -/

theorem Fp.isNan_of_le {a b : F64} (h : Fp.le a b = true) : Fp.isNan a = false ∧ Fp.isNan b = false := by
  simp only [Fp.le, Bool.and_eq_true, Bool.not_eq_true'] at h
  exact h.1

theorem Fp.le_iff {a b : F64} (ha : Fp.isNan a = false) (hb : Fp.isNan b = false) :
    Fp.le a b = true ↔ Fp.units a ≤ Fp.units b := by simp [Fp.le, ha, hb]

theorem Fp.lt_iff {a b : F64} (ha : Fp.isNan a = false) (hb : Fp.isNan b = false) :
    Fp.lt a b = true ↔ Fp.units a < Fp.units b := by simp [Fp.lt, ha, hb]

/-! Two values that differ in the sign alone. -/

/-- The values agree but for the sign. -/
def Fp.SameMag (a b : F64) : Prop := Fp.expField a = Fp.expField b ∧ Fp.fracField a = Fp.fracField b

theorem Fp.sameMag_withSign (s t : Bool) {bits : Nat} (h : bits < 2 ^ 63) :
    Fp.SameMag (Fp.withSign s bits) (Fp.withSign t bits) :=
  ⟨by rw [Fp.expField_withSign s h, Fp.expField_withSign t h], by rw [Fp.fracField_withSign s h, Fp.fracField_withSign t h]⟩

theorem Fp.sameMag_round (s t : Bool) (num den : Nat) : Fp.SameMag (Fp.round s num den) (Fp.round t num den) := by
  obtain ⟨bits, hbits⟩ : ∃ bits, ∀ sgn, Fp.round sgn num den =
      if 2047 * 2 ^ 52 ≤ bits then Fp.inf sgn else Fp.withSign sgn bits := ⟨_, fun _ => rfl⟩
  rw [hbits, hbits]
  split
  · exact Fp.sameMag_withSign s t (bits := 2047 * 2 ^ 52) (by decide)
  · exact Fp.sameMag_withSign s t (by omega)

theorem Fp.sameMag_neg (a : F64) : Fp.SameMag a (Fp.neg a) :=
  ⟨(Fp.expField_neg a).symm, (Fp.fracField_neg a).symm⟩

theorem Fp.isNan_neg (a : F64) : Fp.isNan (Fp.neg a) = Fp.isNan a := by simp [Fp.isNan]

theorem Fp.isInf_neg (a : F64) : Fp.isInf (Fp.neg a) = Fp.isInf a := by simp [Fp.isInf]

theorem Fp.sameMag_of_isInf {a b : F64} (ha : Fp.isInf a = true) (hb : Fp.isInf b = true) : Fp.SameMag a b := by
  simp only [Fp.isInf, Bool.and_eq_true, beq_iff_eq] at ha hb
  exact ⟨ha.1.trans hb.1.symm, ha.2.trans hb.2.symm⟩

/-- Swapping the operands of a difference changes at most its sign. -/
theorem Fp.sameMag_sub_comm (a b : F64) : Fp.SameMag (Fp.sub a b) (Fp.sub b a) := by
  have hsum : Fp.units b + Fp.units (Fp.neg a) = -(Fp.units a + Fp.units (Fp.neg b)) := by
    rw [Fp.units_neg, Fp.units_neg]; omega
  have hsign : (Fp.isNeg b != !Fp.isNeg a) = (Fp.isNeg a != !Fp.isNeg b) := by
    cases Fp.isNeg a <;> cases Fp.isNeg b <;> rfl
  unfold Fp.sub Fp.add
  simp only [Fp.isNan_neg, Fp.isInf_neg, Fp.isNeg_neg, Bool.or_comm (Fp.isNan b), hsum, hsign, Int.neg_eq_zero, Int.natAbs_neg]
  split
  case isTrue => exact ⟨rfl, rfl⟩
  case isFalse =>
    cases ha : Fp.isInf a <;> cases hb : Fp.isInf b <;>
      simp only [Bool.false_eq_true, if_false, if_true, Bool.true_and, Bool.false_and]
    · split
      · exact Fp.sameMag_withSign _ _ (by decide)
      · exact Fp.sameMag_round ..
    · exact ⟨Fp.expField_neg b, Fp.fracField_neg b⟩
    · exact Fp.sameMag_neg a
    · split
      · exact ⟨rfl, rfl⟩
      · exact Fp.sameMag_of_isInf ha hb

/-- A square does not depend on the sign. -/
theorem Fp.mul_self_eq_of_sameMag {a b : F64} (h : Fp.SameMag a b) : Fp.mul a a = Fp.mul b b := by
  obtain ⟨hexp, hfrac⟩ := h
  have hnan : Fp.isNan a = Fp.isNan b := by rw [Fp.isNan, hexp, hfrac]; rfl
  have hinf : Fp.isInf a = Fp.isInf b := by rw [Fp.isInf, hexp, hfrac]; rfl
  have hmag : Fp.mag a = Fp.mag b := by rw [Fp.mag, hexp, hfrac]; rfl
  simp only [Fp.mul, hnan, hinf, hmag, bne_self_eq_false]

theorem dist_comm (a b : Point) : dist a b = dist b a := by
  simp only [dist, Fp.mul_self_eq_of_sameMag (Fp.sameMag_sub_comm a.x b.x),
    Fp.mul_self_eq_of_sameMag (Fp.sameMag_sub_comm a.y b.y)]

end Sys2Proof.Machine
end

section
/-! The locator (R300 to R328): where candidates lie, the choice of three, their corners and orientation, the candidate `LOCA`
adopts, and the three commands. -/

open Sys2Proof.Certificates

namespace Sys2Proof.Machine

/-! Candidates lie inside the image, on a grid of half pixels (R305 to R308). -/

theorem gridAt_bounds {g : Grid} {x y : Int} {b : Bool} (h : gridAt g x y = some b) :
    (0 ≤ x ∧ x < g.w) ∧ 0 ≤ y ∧ y < g.h := by
  unfold gridAt at h
  split at h
  case isTrue hin => exact and_assoc.2 hin
  case isFalse => cases h

theorem runLength_le (g : Grid) (black : Bool) (dx dy : Int) (fuel : Nat) (px py : Int) :
    runLength g black dx dy fuel px py ≤ fuel := by
  induction fuel generalizing px py with
  | zero => exact le_rfl
  | succ fuel ih =>
    unfold runLength
    split
    · exact Nat.succ_le_succ (ih ..)
    · exact Nat.zero_le _

theorem scanRuns_sum_le {g : Grid} {dx dy : Int} {cs : List Bool} {mayBeEmpty : Bool} {px py : Int} {ns : List Nat}
    (h : scanRuns g dx dy cs mayBeEmpty px py = some ns) : ns.sum ≤ cs.length * (g.w + g.h) := by
  induction cs generalizing mayBeEmpty px py ns with
  | nil => cases h; exact Nat.zero_le _
  | cons c cs ih =>
    simp only [scanRuns] at h
    split at h
    case isTrue => cases h
    case isFalse =>
      obtain ⟨rest, hrest, rfl⟩ := Option.map_eq_some_iff.1 h
      have hrun := runLength_le g c dx dy (g.w + g.h) px py
      have htail := ih hrest
      rw [List.sum_cons, List.length_cons, Nat.succ_mul]
      omega

/-- A scan begins inside the image, and counts on each side no more pixels than its half of the pattern has runs for. -/
theorem crossScan_bounds {g : Grid} {x y dx dy : Int} {n : Nat} {sc : Scan} (h : crossScan g x y dx dy n = some sc) :
    ((0 ≤ x ∧ x < g.w) ∧ 0 ≤ y ∧ y < g.h) ∧ sc.before ≤ (halfColours n).length * (g.w + g.h) ∧
      sc.after ≤ (halfColours n).length * (g.w + g.h) := by
  unfold crossScan at h
  split at h
  case isTrue => cases h
  case isFalse hcell =>
    split at h
    case h_2 => cases h
    case h_1 back fwd hback hfwd =>
      cases h
      exact ⟨gridAt_bounds (not_not.1 hcell), (Nat.sub_le ..).trans (scanRuns_sum_le hback), scanRuns_sum_le hfwd⟩

/-- A refined centre is a pixel index moved by half of a difference of two pixel counts, computed exactly. -/
theorem onGrid_refine {i : Int} {sc : Scan} {n e : Nat} (he : e + 1 = 1074) (hpos : 0 ≤ i) (hi : i ≤ n)
    (hbefore : sc.before ≤ n) (hafter : sc.after ≤ n) (hn : n < 2 ^ 20) : Fp.OnGrid e (3 * n) (refine i sc) := by
  obtain ⟨hfi, hunits⟩ := Fp.units_ofInt (z := i) (by omega)
  obtain ⟨hfd, hdiff⟩ := Fp.units_ofInt (z := (sc.after : Int) - sc.before) (by omega)
  rw [← he] at hunits hdiff
  obtain ⟨hfh, hhalf⟩ := Fp.units_half hfd (by omega) (by omega) hdiff
  have hsum : Fp.units (Fp.ofInt i) + Fp.units (Fp.div (Fp.ofInt ((sc.after : Int) - sc.before)) (Fp.ofNat 2)) =
      (2 * i + ((sc.after : Int) - sc.before)) * 2 ^ e := by
    rw [hunits, hhalf]
    ring
  obtain ⟨hfin, hcentre⟩ := Fp.units_add hfi hfh (by omega) (by omega) hsum
  exact ⟨hfin, _, by omega, hcentre⟩

/-- A point of the image's half-pixel grid. -/
def Point.OnGrid (n : Nat) (q : Point) : Prop := Fp.OnGrid 1073 n q.x ∧ Fp.OnGrid 1073 n q.y

/-- A candidate's centre is refined from a pixel and the two scans through it (R305 to R308). -/
theorem candOf_centre {g : Grid} {ratio : List Nat} {y : Nat} {win : List Run} {c : Cand}
    (h : candOf g ratio y win = some c) : ∃ xi v hs, crossScan g xi y 0 1 ratio.length = some v ∧
      crossScan g xi y 1 0 ratio.length = some hs ∧ c.x = refine xi hs ∧ c.y = refine y v := by
  unfold candOf at h
  -- The scans are kept abstract: the kernel, to compare two terms that match on them, would run them.
  obtain ⟨cross, hcross⟩ : ∃ cross, cross = crossScan := ⟨_, rfl⟩
  obtain ⟨four, hfour⟩ : ∃ four, four = fourScans := ⟨_, rfl⟩
  rw [← hcross, ← hfour] at h
  rw [← hcross]
  dsimp only at h
  split at h
  · cases h
  · split at h
    · cases h
    case h_2 v hv =>
      split at h
      · cases h
      · split at h
        · cases h
        case h_2 hs hhs =>
          split at h
          · cases h
          · obtain rfl := Option.some.inj h
            exact ⟨_, v, hs, hv, hhs, rfl, rfl⟩

theorem candOf_onGrid {g : Grid} {y : Nat} {win : List Run} {c : Cand} (h : candOf g finderRatio y win = some c)
    (hsize : g.w + g.h < 2 ^ 17) : c.centre.OnGrid (9 * (g.w + g.h)) := by
  have hcolours : (halfColours finderRatio.length).length = 3 := by decide
  obtain ⟨xi, v, hs, hv, hhs, hcx, hcy⟩ := candOf_centre h
  obtain ⟨⟨hx, hy⟩, hvb, hva⟩ := crossScan_bounds hv
  obtain ⟨-, hhb, hha⟩ := crossScan_bounds hhs
  rw [hcolours] at hvb hva hhb hha
  rw [Point.OnGrid, Cand.centre, hcx, hcy, show 9 * (g.w + g.h) = 3 * (3 * (g.w + g.h)) by omega]
  exact ⟨onGrid_refine rfl hx.1 (by omega) hhb hha (by omega), onGrid_refine rfl hy.1 (by omega) hvb hva (by omega)⟩

theorem sweep_onGrid {g : Grid} {xs xe ys ye : Nat} {c : Cand} (h : c ∈ sweep g finderRatio xs xe ys ye)
    (hsize : g.w + g.h < 2 ^ 17) : c.centre.OnGrid (9 * (g.w + g.h)) := by
  obtain ⟨_, -, hrow⟩ := List.mem_flatMap.1 h
  obtain ⟨_, -, hcand⟩ := List.mem_filterMap.1 hrow
  exact candOf_onGrid hcand hsize

/-! The choice of three candidates (R313, R318). -/

/-- The two points are at least 50 apart (R313). -/
def apart (p q : Point) : Prop := Fp.le (Fp.ofNat 50) (dist p q) = true

theorem apart_symm {p q : Point} (h : apart p q) : apart q p := by
  unfold apart at *
  rwa [dist_comm]

/-- One candidate considered (R313). -/
def pickStep (chosen : List Cand) (c : Cand) : List Cand :=
  if chosen.length < 3 && chosen.all fun d => Fp.le (Fp.ofNat 50) (dist c.centre d.centre) then chosen ++ [c] else chosen

theorem pick3_eq (cs : List Cand) : pick3 cs = cs.foldl pickStep [] := rfl

theorem foldl_pickStep (cs chosen : List Cand) (hlen : chosen.length ≤ 3)
    (hpair : chosen.Pairwise fun d c => apart d.centre c.centre) :
    ∃ l, l.Sublist cs ∧ cs.foldl pickStep chosen = chosen ++ l ∧ (chosen ++ l).length ≤ 3 ∧
      (chosen ++ l).Pairwise fun d c => apart d.centre c.centre := by
  induction cs generalizing chosen with
  | nil => exact ⟨[], .slnil, by simp, by simpa using hlen, by simpa using hpair⟩
  | cons c cs ih =>
    rw [List.foldl_cons, pickStep]
    split
    case isTrue htake =>
      simp only [Bool.and_eq_true, decide_eq_true_eq, List.all_eq_true] at htake
      obtain ⟨hroom, hfar⟩ := htake
      obtain ⟨l, hsub, heq, hlen', hpair'⟩ := ih (chosen ++ [c]) (by simpa using hroom) <|
        List.pairwise_append.2 ⟨hpair, List.pairwise_singleton _ _, fun d hd e he => by
          obtain rfl := List.mem_singleton.1 he
          exact apart_symm (hfar d hd)⟩
      rw [List.append_assoc] at heq hlen' hpair'
      exact ⟨c :: l, hsub.cons_cons c, heq, hlen', hpair'⟩
    case isFalse =>
      obtain ⟨l, hsub, hrest⟩ := ih chosen hlen hpair
      exact ⟨l, hsub.cons c, hrest⟩

/-- The choice keeps the order, takes at most three, and every two at least 50 apart. -/
theorem pick3_spec (cs : List Cand) : (pick3 cs).Sublist cs ∧ (pick3 cs).length ≤ 3 ∧
    (pick3 cs).Pairwise fun d c => apart d.centre c.centre := by
  obtain ⟨l, hsub, heq, hlen, hpair⟩ := foldl_pickStep cs [] (Nat.zero_le _) .nil
  rw [pick3_eq, heq]
  exact ⟨hsub, hlen, hpair⟩

/-- All the faults of the search (R318). -/
theorem findFinders_error {g : Grid} {pl : Patterns} {c : ErrCode} {n : Nat} (h : findFinders g pl = .error (c, n)) :
    (c = .noFinders ∨ c = .noValidFinders) ∧ n ≤ 2 := by
  unfold findFinders at h
  dsimp only at h
  split at h
  case isTrue hfew =>
    cases h
    exact ⟨.inl rfl, Nat.le_of_lt_succ hfew⟩
  case isFalse =>
    split at h
    · cases h
    case h_2 hthree =>
      cases h
      refine ⟨.inr rfl, ?_⟩
      obtain ⟨-, hlen, -⟩ := pick3_spec
        ((sortCands (sweep g finderRatio 0 g.w 0 g.h)).filter
          (keepsSize (maxSizeOf (pick3 (sortCands (sweep g finderRatio 0 g.w 0 g.h))))))
      refine Nat.le_of_lt_succ (Nat.lt_of_le_of_ne hlen fun hlen3 => ?_)
      obtain ⟨a, b, c, habc⟩ := List.length_eq_three.1 hlen3
      exact hthree a b c habc

/-- The record found: three swept candidates in ascending order of error, every two at least 50 apart, put at the corners. -/
theorem findFinders_ok {g : Grid} {pl pl' : Patterns} (h : findFinders g pl = .ok pl') : ∃ a b c : Cand,
    (∀ d ∈ [a, b, c], d ∈ sweep g finderRatio 0 g.w 0 g.h) ∧ errSorted [a, b, c] ∧
    ([a, b, c].Pairwise fun d e => apart d.centre e.centre) ∧
    pl' = { pl with
      tl := (corners a.centre b.centre c.centre).1, tr := (corners a.centre b.centre c.centre).2.1,
      bl := (corners a.centre b.centre c.centre).2.2,
      fsize := Fp.div (Fp.add (Fp.add a.size b.size) c.size) (Fp.ofNat 3) } := by
  unfold findFinders at h
  dsimp only at h
  split at h
  · cases h
  · split at h
    case h_2 => cases h
    case h_1 a b c habc =>
      cases h
      obtain ⟨hsub, -, hpair⟩ := pick3_spec
        ((sortCands (sweep g finderRatio 0 g.w 0 g.h)).filter
          (keepsSize (maxSizeOf (pick3 (sortCands (sweep g finderRatio 0 g.w 0 g.h))))))
      rw [habc] at hsub hpair
      obtain ⟨hperm, hsorted⟩ := sortCands_spec (sweep g finderRatio 0 g.w 0 g.h)
      have hall := hsub.trans List.filter_sublist
      exact ⟨a, b, c, fun d hd => hperm.mem_iff.1 (hall.subset hd), hsorted.sublist hall, hpair, rfl⟩

/-! The corners (R319): `TR` and `BL` are a farthest pair, in the order that makes the cross product not positive. -/

/-- The points of a farthest pair among three, and the third (R319). -/
def farthest (a b c : Point) : Point × Point × Point :=
  if Fp.le (dist a c) (dist a b) && Fp.le (dist b c) (dist a b) then (a, b, c)
  else if Fp.le (dist b c) (dist a c) then (a, c, b)
  else (b, c, a)

/-- The cross product of `TR - BL` and `TL - BL` (R319). -/
def cornerCross (tr bl tl : Point) : F64 :=
  Fp.sub (Fp.mul (Fp.sub tr.x bl.x) (Fp.sub tl.y bl.y)) (Fp.mul (Fp.sub tr.y bl.y) (Fp.sub tl.x bl.x))

/-- The corners `TL`, `TR`, `BL`, the latter two swapped where the cross product is positive (R319). -/
def oriented (tr bl tl : Point) : Point × Point × Point :=
  if Fp.lt (Fp.ofNat 0) (cornerCross tr bl tl) then (tl, bl, tr) else (tl, tr, bl)

theorem corners_eq (a b c : Point) : corners a b c =
    oriented (farthest a b c).1 (farthest a b c).2.1 (farthest a b c).2.2 := rfl

/-- Neither `p` nor `q` is farther from `r` than from the other. -/
def FarthestPair (r p q : Point) : Prop := Fp.le (dist r p) (dist p q) = true ∧ Fp.le (dist r q) (dist p q) = true

theorem FarthestPair.symm {r p q : Point} (h : FarthestPair r p q) : FarthestPair r q p := by
  obtain ⟨hp, hq⟩ := h
  exact ⟨dist_comm p q ▸ hq, dist_comm p q ▸ hp⟩

theorem farthest_perm (a b c : Point) :
    [(farthest a b c).2.2, (farthest a b c).1, (farthest a b c).2.1].Perm [a, b, c] := by
  unfold farthest
  split
  · exact (List.perm_append_comm : ([c] ++ [a, b]).Perm _)
  · split
    · exact .swap a b [c]
    · exact .refl _

theorem farthest_farthestPair {a b c : Point} (hab : apart a b) (hac : apart a c) (hbc : apart b c) :
    FarthestPair (farthest a b c).2.2 (farthest a b c).1 (farthest a b c).2.1 := by
  have hnab := (Fp.isNan_of_le hab).2
  have hnac := (Fp.isNan_of_le hac).2
  have hnbc := (Fp.isNan_of_le hbc).2
  unfold farthest FarthestPair
  split
  case isTrue h =>
    rw [Bool.and_eq_true] at h
    dsimp only
    rw [dist_comm c a, dist_comm c b]
    exact h
  case isFalse h =>
    rw [Bool.and_eq_true, Fp.le_iff hnac hnab, Fp.le_iff hnbc hnab] at h
    split
    case isTrue h' =>
      dsimp only
      rw [dist_comm b a, Fp.le_iff hnab hnac, Fp.le_iff hnbc hnac]
      rw [Fp.le_iff hnbc hnac] at h'
      omega
    case isFalse h' =>
      dsimp only
      rw [Fp.le_iff hnab hnbc, Fp.le_iff hnac hnbc]
      rw [Fp.le_iff hnbc hnac] at h'
      omega

theorem oriented_perm (tr bl tl : Point) :
    [(oriented tr bl tl).1, (oriented tr bl tl).2.1, (oriented tr bl tl).2.2].Perm [tl, tr, bl] := by
  unfold oriented
  split
  · exact (List.Perm.swap tr bl []).cons tl
  · exact .refl _

theorem oriented_farthestPair {tr bl tl : Point} (h : FarthestPair tl tr bl) :
    FarthestPair (oriented tr bl tl).1 (oriented tr bl tl).2.1 (oriented tr bl tl).2.2 := by
  unfold oriented
  split
  · exact h.symm
  · exact h

/-- The cross product computed exactly, in squared units. -/
def unitCross (tr bl tl : Point) : Int :=
  (Fp.units tr.x - Fp.units bl.x) * (Fp.units tl.y - Fp.units bl.y) -
    (Fp.units tr.y - Fp.units bl.y) * (Fp.units tl.x - Fp.units bl.x)

theorem unitCross_swap (tr bl tl : Point) : unitCross bl tr tl = -unitCross tr bl tl := by
  unfold unitCross
  ring

/-- On the half-pixel grid of an image the cross product is computed without rounding. -/
theorem units_cornerCross {n : Nat} {tr bl tl : Point} (htr : tr.OnGrid n) (hbl : bl.OnGrid n) (htl : tl.OnGrid n)
    (hn : n < 2 ^ 21) : Fp.isFinite (cornerCross tr bl tl) = true ∧
      Fp.units (cornerCross tr bl tl) * 2 ^ 1074 = unitCross tr bl tl := by
  obtain ⟨hrx, erx⟩ := htr.1.sub hbl.1 (by decide) (by omega)
  obtain ⟨hry, ery⟩ := htr.2.sub hbl.2 (by decide) (by omega)
  obtain ⟨hlx, elx⟩ := htl.1.sub hbl.1 (by decide) (by omega)
  obtain ⟨hly, ely⟩ := htl.2.sub hbl.2 (by decide) (by omega)
  have hsq : 2 * n * (2 * n) ≤ 2 ^ 22 * 2 ^ 22 := Nat.mul_le_mul (by omega) (by omega)
  obtain ⟨hm1, e1⟩ := hrx.mul hly (f := 1072) rfl (by decide) (by omega)
  obtain ⟨hm2, e2⟩ := hry.mul hlx (f := 1072) rfl (by decide) (by omega)
  obtain ⟨⟨hfin, -⟩, e⟩ := hm1.sub hm2 (by decide) (by omega)
  refine ⟨hfin, ?_⟩
  rw [cornerCross, e, Int.sub_mul, e1, e2, erx, ery, elx, ely, unitCross]

theorem oriented_unitCross {n : Nat} {tr bl tl : Point} (htr : tr.OnGrid n) (hbl : bl.OnGrid n) (htl : tl.OnGrid n)
    (hn : n < 2 ^ 21) :
    unitCross (oriented tr bl tl).2.1 (oriented tr bl tl).2.2 (oriented tr bl tl).1 ≤ 0 := by
  obtain ⟨hfin, hcross⟩ := units_cornerCross htr hbl htl hn
  obtain ⟨hfzero, hzero⟩ := Fp.units_ofNat (n := 0) (by decide)
  have hlt := Fp.lt_iff (Fp.isNan_of_isFinite hfzero) (Fp.isNan_of_isFinite hfin)
  rw [hzero, Nat.cast_zero, Int.zero_mul] at hlt
  unfold oriented
  split
  case isTrue hpos =>
    dsimp only
    rw [unitCross_swap, ← hcross]
    exact Int.neg_nonpos_of_nonneg (Int.mul_nonneg (hlt.1 hpos).le (by positivity))
  case isFalse hle =>
    dsimp only
    rw [← hcross]
    exact Int.mul_nonpos_of_nonpos_of_nonneg (Int.not_lt.1 (mt hlt.2 hle)) (by positivity)

/-- Each corner is one of the three points, and `TR` and `BL` are a farthest pair. -/
theorem corners_spec (a b c : Point) :
    [(corners a b c).1, (corners a b c).2.1, (corners a b c).2.2].Perm [a, b, c] ∧
    ([a, b, c].Pairwise apart → FarthestPair (corners a b c).1 (corners a b c).2.1 (corners a b c).2.2) := by
  rw [corners_eq]
  refine ⟨(oriented_perm ..).trans (farthest_perm a b c), fun h => ?_⟩
  simp only [List.pairwise_cons, List.mem_cons, List.not_mem_nil, or_false, forall_eq_or_imp, forall_eq] at h
  obtain ⟨⟨hab, hac⟩, hbc, -⟩ := h
  exact oriented_farthestPair (farthest_farthestPair hab hac hbc)

theorem corners_unitCross {n : Nat} {a b c : Point} (h : ∀ q ∈ [a, b, c], q.OnGrid n) (hn : n < 2 ^ 21) :
    unitCross (corners a b c).2.1 (corners a b c).2.2 (corners a b c).1 ≤ 0 := by
  rw [corners_eq]
  have hmem {q : Point} (hq : q ∈ [(farthest a b c).2.2, (farthest a b c).1, (farthest a b c).2.1]) : q.OnGrid n :=
    h q ((farthest_perm a b c).mem_iff.1 hq)
  exact oriented_unitCross (hmem (by simp)) (hmem (by simp)) (hmem (by simp)) hn

end Sys2Proof.Machine
end

section
/-! The locator's commands (R320 to R328): the candidate `LOCA` adopts, and each command, its checks in order, then its record. -/

open Sys2Proof.Certificates

namespace Sys2Proof.Machine

/-! The candidate adopted (R324): the sort is stable, so the first of it in the size window is the first found of the lowest
error. -/

/-- A candidate inserted is the first to be adopted, but where one not above it in error comes before. -/
theorem find?_insertCand {p : Cand → Bool} {e : Cand} (he : p e = true) (l : List Cand) :
    (insertCand e l).find? p = some e ∨
      ∃ c, (insertCand e l).find? p = some c ∧ l.find? p = some c ∧ Fp.le e.err c.err = false := by
  induction l with
  | nil => exact .inl (by simp [insertCand, he])
  | cons d l ih =>
    simp only [insertCand]
    split
    case isTrue => exact .inl (by simp [he])
    case isFalse hle =>
      cases hd : p d with
      | true => exact .inr ⟨d, by simp [hd], by simp [hd], by simpa using hle⟩
      | false => simpa [List.find?_cons, hd] using ih

theorem find?_insertCand_of_neg {p : Cand → Bool} {e : Cand} (he : p e = false) (l : List Cand) :
    (insertCand e l).find? p = l.find? p := by
  induction l with
  | nil => simp [insertCand, he]
  | cons d l ih =>
    simp only [insertCand]
    split
    · simp [he]
    · simp [List.find?_cons, ih]

theorem Fp.lt_self (a : F64) : Fp.lt a a = false := by simp [Fp.lt]

/-- None of the candidates adopted later in a sorted list has a lower error than the first. -/
theorem lt_err_of_find? {p : Cand → Bool} {l : List Cand} {c d : Cand} (hsorted : errSorted l) (hc : l.find? p = some c)
    (hd : d ∈ l) (hpd : p d = true) : Fp.lt d.err c.err = false := by
  obtain ⟨-, before, after, rfl, hbefore⟩ := List.find?_eq_some_iff_append.1 hc
  rcases List.mem_append.1 hd with hd | hd
  · exact absurd hpd (by simpa using hbefore d hd)
  · rcases List.mem_cons.1 hd with rfl | hd
    · exact Fp.lt_self _
    · exact (List.pairwise_cons.1 (List.pairwise_append.1 hsorted).2.1).1 d hd

theorem adopts_of_find? {expected : F64} {cands : List Cand} {c : Cand}
    (h : (sortCands cands).find? (adoptable expected) = some c) : adopts expected cands c := by
  induction cands generalizing c with
  | nil => cases h
  | cons e l ih =>
    have hins : sortCands (e :: l) = insertCand e (sortCands l) := rfl
    have later (h' : (sortCands l).find? (adoptable expected) = some c)
        (hhead : adoptable expected e = true → Fp.le e.err c.err = false) : adopts expected (e :: l) c := by
      obtain ⟨pre, post, rfl, hc, hpre, hpost⟩ := ih h'
      exact ⟨e :: pre, post, rfl, hc, List.forall_mem_cons.2 ⟨hhead, hpre⟩, hpost⟩
    cases he : adoptable expected e with
    | false =>
      rw [hins, find?_insertCand_of_neg he] at h
      exact later h fun h' => absurd h' (by rw [he]; decide)
    | true =>
      rcases find?_insertCand he (sortCands l) with hfirst | ⟨d, hd, hrest, hle⟩
      · obtain rfl : e = c := Option.some.inj (hfirst.symm.trans (hins ▸ h))
        obtain ⟨hperm, hsorted⟩ := sortCands_spec (e :: l)
        exact ⟨[], l, rfl, he, fun _ hmem => absurd hmem List.not_mem_nil, fun d hd =>
          lt_err_of_find? hsorted h (hperm.mem_iff.2 (List.mem_cons_of_mem e hd))⟩
      · obtain rfl : d = c := Option.some.inj (hd.symm.trans (hins ▸ h))
        exact later hrest fun _ => hle

/-- `LOCA` writes the fourth corner and the size alone (R324). -/
theorem findAlignment_eq (g : Grid) (pl : Patterns) :
    findAlignment g pl = { pl with br := (findAlignment g pl).br, asize := (findAlignment g pl).asize } := by
  unfold findAlignment
  split <;> rfl

theorem findAlignment_of_none {g : Grid} {pl : Patterns}
    (h : ∀ c ∈ alignCands g pl, adoptable (expectedSize pl) c = false) :
    findAlignment g pl = { pl with br := estimateBr pl, asize := expectedSize pl } := by
  have hnone : (sortCands (alignCands g pl)).find? (adoptable (expectedSize pl)) = none :=
    List.find?_eq_none.2 fun c hc => by simpa using h c ((sortCands_spec _).1.mem_iff.1 hc)
  rw [findAlignment, hnone]

theorem findAlignment_of_some {g : Grid} {pl : Patterns}
    (h : ∃ c ∈ alignCands g pl, adoptable (expectedSize pl) c = true) :
    ∃ c, adopts (expectedSize pl) (alignCands g pl) c ∧
      findAlignment g pl = { pl with br := c.centre, asize := c.size } := by
  obtain ⟨d, hd, hadopt⟩ := h
  obtain ⟨c, hc⟩ := Option.isSome_iff_exists.1
    (List.find?_isSome.2 ⟨d, (sortCands_spec (alignCands g pl)).1.mem_iff.2 hd, hadopt⟩)
  exact ⟨c, adopts_of_find? hc, by rw [findAlignment, hc]⟩

/-! The commands. -/

section
variable (s : State)

theorem execLocf_of_dimFault {e : ErrCode × Nat} (h : s.dimFault = some e) : execLocf s = s.raise e.1 e.2 := by
  unfold execLocf
  rw [h]

theorem execLoca_of_dimFault {e : ErrCode × Nat} (h : s.dimFault = some e) : execLoca s = s.raise e.1 e.2 := by
  unfold execLoca
  rw [h]

theorem execLocate_of_dimFault {e : ErrCode × Nat} (h : s.dimFault = some e) : execLocate s = s.raise e.1 e.2 := by
  unfold execLocate
  rw [h]

variable (hdims : s.dimFault = none)
include hdims

theorem execLocf_of_error {e : ErrCode × Nat} (h : findFinders s.bitGrid s.pl = .error e) :
    execLocf s = s.raise e.1 e.2 := by
  unfold execLocf
  rw [hdims, h]

theorem execLocf_of_ok {pl : Patterns} (h : findFinders s.bitGrid s.pl = .ok pl) :
    execLocf s = State.complete { s with pl := pl } := by
  unfold execLocf
  rw [hdims, h]

theorem execLoca_of_not_finite (h : locaFinite s.pl = false) : execLoca s = s.raise .range 0 := by
  unfold execLoca
  rw [hdims, h]
  rfl

theorem execLoca_of_finite (h : locaFinite s.pl = true) :
    execLoca s = State.complete { s with pl := findAlignment s.bitGrid s.pl } := by
  unfold execLoca
  rw [hdims, h]
  rfl

theorem execLocate_of_error {e : ErrCode × Nat} (h : findFinders s.bitGrid s.pl = .error e) :
    execLocate s = s.raise e.1 e.2 := by
  unfold execLocate
  rw [hdims, h]

theorem execLocate_of_ok {pl : Patterns} (h : findFinders s.bitGrid s.pl = .ok pl) (hfin : locaFinite pl = true) :
    execLocate s = State.complete { s with pl := findAlignment s.bitGrid pl } := by
  unfold execLocate
  rw [hdims, h]
  dsimp only
  rw [hfin]
  rfl

end

/-- The record `LOCF` writes is of three finders, and keeps the fourth corner (R313, R319 to R321). -/
theorem threeFinders_of_ok {s : State} {pl : Patterns} (h : findFinders s.bitGrid s.pl = .ok pl) :
    pl.br = s.pl.br ∧ pl.asize = s.pl.asize ∧ threeFinders s pl := by
  obtain ⟨a, b, c, hswept, hsorted, hapart, rfl⟩ := findFinders_ok h
  obtain ⟨hperm, hfar⟩ := corners_spec a.centre b.centre c.centre
  have hpair : [a.centre, b.centre, c.centre].Pairwise apart :=
    (List.pairwise_map (f := Cand.centre) (l := [a, b, c])).2 hapart
  have hcorners := (hperm.pairwise_iff apart_symm).2 hpair
  obtain ⟨htr, hbl⟩ := hfar hpair
  simp only [List.pairwise_cons, List.mem_cons, List.not_mem_nil, or_false, forall_eq_or_imp, forall_eq] at hcorners
  obtain ⟨⟨h1, h2⟩, h3, -⟩ := hcorners
  simp only [errSorted, List.pairwise_cons, List.mem_cons, List.not_mem_nil, or_false, forall_eq_or_imp, forall_eq] at hsorted
  obtain ⟨⟨hab, -⟩, hbc, -⟩ := hsorted
  exact ⟨rfl, rfl, ⟨a, b, c, hswept, hab, hbc, hperm, rfl⟩, h1, h2, h3, htr, hbl⟩

/-- Settles O49: each clause is the case the checks come to; the searches are functions of the matrix and the record alone. -/
theorem locatorEffects : Obligations.LocatorEffects := by
  unfold Obligations.LocatorEffects
  refine ⟨decode_encode .locf, decode_encode .loca, decode_encode .locate, fun s => ?_⟩
  refine ⟨fun i hi => faultsAs_of_dimFault fun e he => ?_, fun hdims c n h => ?_, fun hdims pl h => ?_,
    fun hdims h => execLoca_of_not_finite s (dimFault_of_dimsOk hdims) h, fun hdims h => ?_, fun hdims pl h hfin => ?_⟩
  · simp only [List.mem_cons, List.not_mem_nil, or_false] at hi
    rcases hi with rfl | rfl | rfl
    · exact execLocf_of_dimFault s he
    · exact execLoca_of_dimFault s he
    · exact execLocate_of_dimFault s he
  · obtain ⟨hcode, hn⟩ := findFinders_error h
    have hdim := dimFault_of_dimsOk hdims
    exact ⟨execLocf_of_error s hdim h, execLocate_of_error s hdim h, hcode, hn⟩
  · exact ⟨execLocf_of_ok s (dimFault_of_dimsOk hdims) h, threeFinders_of_ok h⟩
  · refine ⟨_, execLoca_of_finite s (dimFault_of_dimsOk hdims) h, ?_, fun hnone => ?_, fun hsome => ?_⟩
    · exact congrArg (fun pl => State.completed { s with pl := pl }) (findAlignment_eq s.bitGrid s.pl)
    · simp [findAlignment_of_none hnone]
    · obtain ⟨c, hadopts, heq⟩ := findAlignment_of_some hsome
      exact ⟨c, hadopts, by simp [heq], by simp [heq]⟩
  · have hdim := dimFault_of_dimsOk hdims
    have hdim1 : (State.completed { s with pl := pl }).dimFault = none := by
      rw [dimFault_eq_of_dims s (State.completed { s with pl := pl }) rfl rfl, hdim]
    refine ⟨_, _, execLocf_of_ok s hdim h, execLoca_of_finite (State.completed { s with pl := pl }) hdim1 hfin, ?_⟩
    exact execLocate_of_ok s hdim h hfin

/-- Settles O60: the three finders stand on the half-pixel grid of an image, where the model's cross product is exact, and the
corners are put in the order of its sign. -/
theorem locfOrientation : Obligations.LocfOrientation := by
  unfold Obligations.LocfOrientation
  intro s pl hdims h u
  refine ⟨execLocf_of_ok s (dimFault_of_dimsOk hdims) h, ?_⟩
  obtain ⟨hw, hh⟩ := hdims
  have hwmax := Config.wmax_le
  have hhmax := Config.hmax_le
  have hsize : s.bitGrid.w + s.bitGrid.h < 2 ^ 17 := by
    have : s.bitGrid.w = s.width := rfl
    have : s.bitGrid.h = s.height := rfl
    omega
  obtain ⟨a, b, c, hswept, -, -, rfl⟩ := findFinders_ok h
  have hgrid : ∀ q ∈ [a.centre, b.centre, c.centre], q.OnGrid (9 * (s.bitGrid.w + s.bitGrid.h)) := by
    intro q hq
    obtain ⟨d, hd, rfl⟩ := List.mem_map.1 (show q ∈ [a, b, c].map Cand.centre from hq)
    exact sweep_onGrid (hswept d hd) hsize
  refine ⟨fun q hq => ?_, corners_unitCross hgrid (by omega)⟩
  obtain ⟨⟨hx, -⟩, hy, -⟩ := hgrid q ((corners_spec a.centre b.centre c.centre).1.mem_iff.1 hq)
  exact ⟨hx, hy⟩

end Sys2Proof.Machine
end

section
/-! The transform and the extractor (R340 to R370): the side, the stored matrix, the resampled cells and the cells of the code, and
the two commands, each its checks in order, then its stores. -/

open Sys2Proof.Certificates

namespace Sys2Proof.Machine

/-! The side (R341, R345, R350). -/

section
variable {v : F64}

theorem sideOf_of_isInf (h : Fp.isInf v = true) : sideOf v = .error (2 ^ 32 - 1) := by
  have hnan : Fp.isNan v = false := by
    simp only [Fp.isInf, Bool.and_eq_true, beq_iff_eq] at h
    simp [Fp.isNan, h.2]
  rw [sideOf, if_neg (by simp [hnan]), if_pos h]

variable (hfin : Fp.isFinite v = true)
include hfin

theorem sideOf_of_isFinite : sideOf v =
    if (Fp.floor v).toNat < 1 ∨ Config.rmax < (Fp.floor v).toNat then .error (min (Fp.floor v).toNat (2 ^ 32 - 1))
    else .ok (Fp.floor v).toNat := by
  rw [sideOf, if_neg (by simp [Fp.isNan_of_isFinite hfin]), if_neg (by simp [Fp.isInf_of_isFinite hfin])]

theorem sideOf_of_lt_one (h : Fp.floor v < 1) : sideOf v = .error 0 := by
  have hzero : (Fp.floor v).toNat = 0 := by omega
  rw [sideOf_of_isFinite hfin, hzero, if_pos (.inl Nat.one_pos), Nat.zero_min]

variable {n : Nat} (hn : Fp.floor v = n)
include hn

theorem sideOf_of_gt (h : Config.rmax < n) : sideOf v = .error (min n (2 ^ 32 - 1)) := by
  rw [sideOf_of_isFinite hfin, hn, Int.toNat_natCast, if_pos (.inr h)]

theorem sideOf_of_le (hpos : 1 ≤ n) (h : n ≤ Config.rmax) : sideOf v = .ok n := by
  rw [sideOf_of_isFinite hfin, hn, Int.toNat_natCast, if_neg (by omega)]

end

/-! The stored matrix (R346, U13) and the resampled cells (R348). -/

theorem isNan_freeNan (n : Nat) : Fp.isNan (freeNan n) = true := by
  unfold freeNan
  split
  · assumption
  · decide

theorem storedMat_getElem (n : Nat) (a : Mat3) (k : Fin 9) :
    if Fp.isNan a[k] = true then Fp.isNan (storedMat n a)[k] = true else (storedMat n a)[k] = a[k] := by
  have hentry : (storedMat n a)[k] = if Fp.isNan a[k] = true then freeNan (n + k.val) else a[k] := by
    simp [storedMat]
  rw [hentry]
  split
  · exact isNan_freeNan _
  · rfl

/-- The bit matrix has the cells its dimensions say, and no other (R15, R45). -/
theorem State.gridAt_bitGrid (s : State) (x y : Int) : gridAt s.bitGrid x y =
    if 0 ≤ x ∧ x < s.width ∧ 0 ≤ y ∧ y < s.height then some (s.bitCell (y.toNat * s.width + x.toNat)) else none := by
  unfold gridAt
  refine ite_congr rfl (fun h => ?_) fun _ => rfl
  have hx : x.toNat < s.width := by omega
  have hy : y.toNat < s.height := by omega
  exact s.bitCells_getElem? _ _ (cellIndex_lt hx hy)

theorem State.resampled_bitGrid (s : State) (a : Mat3) (x y : Nat) :
    resampled s.bitGrid a x y = sampled s (applyMat a (Fp.ofNat x) (Fp.ofNat y)) := by
  simp only [resampled, sampled, Fp.roundHalfUp, Bool.and_eq_true, s.gridAt_bitGrid]
  split
  case isTrue => split <;> rfl
  case isFalse => rfl

/-! `XFORM` (R350). -/

section
variable (s : State)

theorem execXform_of_dimFault {e : ErrCode × Nat} (h : s.dimFault = some e) : execXform s = s.raise e.1 e.2 := by
  unfold execXform
  rw [h]

variable (hdims : s.dimFault = none)
include hdims

theorem execXform_of_not_finite (h : xformFinite s.pl = false) : execXform s = s.raise .range 0 := by
  unfold execXform
  rw [hdims, h]
  rfl

variable (hfin : xformFinite s.pl = true)
include hfin

theorem execXform_of_error {n : Nat} (h : sideOf (rectSide s.pl) = .error n) : execXform s = s.raise .range n := by
  unfold execXform
  rw [hdims, hfin, h]
  rfl

theorem execXform_of_ok {n : Nat} (h : sideOf (rectSide s.pl) = .ok n) :
    execXform s = State.complete { s.storeRct 0 (rectBits s.bitGrid (xformMat s.pl n) n) with
      m := storedMat s.nans (xformMat s.pl n), nans := s.nans + 9, rectN := BitVec.ofNat 32 n } := by
  unfold execXform
  rw [hdims, hfin, h]
  rfl

end

/-- Settles O50: each clause is the case of the side the checks come to; the cells are stored from cell 0 of `RCT`. -/
theorem xformEffect : Obligations.XformEffect := by
  unfold Obligations.XformEffect
  refine ⟨decode_encode .xform, fun s => ?_⟩
  obtain ⟨hwidth, hheight⟩ := faultsAs_of_dimFault (s := s) (i := .xform) fun _ he => execXform_of_dimFault s he
  refine ⟨hwidth, hheight, fun hdims hpl => execXform_of_not_finite s (dimFault_of_dimsOk hdims) hpl,
    fun hdims hpl hinf => execXform_of_error s (dimFault_of_dimsOk hdims) hpl (sideOf_of_isInf hinf),
    fun hdims hpl hfin hlow => execXform_of_error s (dimFault_of_dimsOk hdims) hpl (sideOf_of_lt_one hfin hlow),
    fun hdims hpl hfin n hn hgt => execXform_of_error s (dimFault_of_dimsOk hdims) hpl (sideOf_of_gt hfin hn hgt),
    fun hdims hpl hfin n hn hpos hle => ?_⟩
  refine ⟨_, execXform_of_ok s (dimFault_of_dimsOk hdims) hpl (sideOf_of_le hfin hn hpos hle),
    fun k => storedMat_getElem s.nans (xformMat s.pl n) k, fun x y hx hy => ?_, fun k hk => ?_, rfl⟩
  · rw [← s.resampled_bitGrid]
    exact memRead_memWrite_zero_of_getElem? _ s.rct (getElem?_flatMap_range_map hx hy _)
  · exact memRead_memWrite_zero_of_le _ s.rct (by rwa [rectBits_length])

/-! The extractor (R352 to R367). -/

theorem measure_of_no_radius {g : Grid} (h : radii g = []) : measure g = .error 6 := if_pos h

section
variable {g : Grid} (h : radii g ≠ [])
include h

theorem measure_of_no_count (hcount : cellCount g.w (scaleOf (radii g)) = none) : measure g = .error 7 := by
  rw [measure, if_neg h, hcount]

theorem measure_of_count {cells : Nat} (hcount : cellCount g.w (scaleOf (radii g)) = some cells) :
    measure g = .ok (scaleOf (radii g), cells) := by
  rw [measure, if_neg h, hcount]

end

theorem cellCount_bounds {n : Nat} {sc : Scale} {cells : Nat} (h : cellCount n sc = some cells) :
    1 ≤ cells ∧ cells ≤ 64 := by
  unfold cellCount at h
  dsimp only at h
  split at h
  · cases h
  · cases h
    omega

/-- The symbol of a cell stands at its column's place, at its row (R361). -/
theorem cellSymbols_getElem? (g : Grid) (ut gt : F64) (sc : Scale) {cells col row : Nat} (hcol : col < cells)
    (hrow : row < cells) : (cellSymbols g ut gt sc cells)[col * cells + row]? = some (cellSymbol g ut gt sc col row) :=
  getElem?_flatMap_range_map (f := fun row col => cellSymbol g ut gt sc col row) hrow hcol

/-! `EXTRACT` (R370). -/

section
variable {xs0 : XReg} {s : State} (hpos : 1 ≤ s.rectN.toNat) (hle : s.rectN.toNat ≤ Config.rmax)
include hpos hle

/-- The side passes its check, and the command goes on. -/
theorem extractSide_of_le (r : Result) :
    (if s.rectN.toNat = 0 ∨ Config.rmax < s.rectN.toNat then s.raise .range s.rectN.toNat else r) = r :=
  if_neg (by omega)

theorem execExtract_of_error {info : Nat} (h : measure s.rctGrid = .error info) :
    execExtract xs0 s = s.raise .invalidCode info := by
  refine (extractSide_of_le hpos hle _).trans ?_
  dsimp only
  rw [h]

variable {sc : Scale} {cells : Nat} (h : measure s.rctGrid = .ok (sc, cells))
include h

theorem execExtract_of_not_fits (hdst : ¬ fits (s.natX xs0) (cells * cells)) :
    execExtract xs0 s = s.raise .addr (s.natX xs0) := by
  refine (extractSide_of_le hpos hle _).trans ?_
  dsimp only
  rw [h]
  exact symCheck_of_not_fits _ _ hdst

theorem execExtract_of_fits (hdst : fits (s.natX xs0) (cells * cells)) :
    let data := cellSymbols s.rctGrid Config.unitDimThreshold Config.gapDimThreshold sc cells
    execExtract xs0 s = State.complete { s.storeSym (s.natX xs0) (data.map gfByte) with
      codeSize := BitVec.ofNat 32 cells, codeVer := (data.headD 0).setWidth 32 } := by
  refine (extractSide_of_le hpos hle _).trans ?_
  dsimp only
  rw [h]
  exact symCheck_of_fits _ _ hdst

end

theorem setWidth_gfByte (v : GF) : (gfByte v).setWidth 32 = (v.setWidth 32 : Word) := by
  refine BitVec.eq_of_toNat_eq ?_
  simp only [gfByte, BitVec.toNat_setWidth]
  omega

theorem State.symByte_storeSym_of_getElem? (s : State) (a : Nat) {q : List GF} {j : Nat} {v : GF} (h : q[j]? = some v) :
    (s.storeSym a (q.map gfByte)).symByte (a + j) = gfByte v := by
  obtain ⟨hj, rfl⟩ := List.getElem?_eq_some_iff.1 h
  rw [s.symByte_storeSym_gfByte a hj, List.getD_eq_getElem _ _ hj]

/-- The version is the first symbol stored (R367). -/
theorem State.setWidth_symByte_storeSym (s : State) (a : Nat) {q : List GF} (h : 0 < q.length) :
    ((s.storeSym a (q.map gfByte)).symByte a).setWidth 32 = ((q.headD 0).setWidth 32 : Word) := by
  obtain ⟨v, q, rfl⟩ := List.exists_cons_of_length_pos h
  rw [← setWidth_gfByte]
  exact congrArg _ (s.symByte_storeSym_of_getElem? a (q := v :: q) (j := 0) rfl)

/-- Settles O51: each clause is the case of the measured code the checks come to. The symbols are stored column by column, so the
first cell's is the version. -/
theorem extractEffect : Obligations.ExtractEffect := by
  unfold Obligations.ExtractEffect
  intro xs0 s dst n i
  refine ⟨decode_encode i, fun hn => if_pos hn, fun hpos hle =>
    ⟨fun h => execExtract_of_error hpos hle (measure_of_no_radius h),
      fun h hcount => execExtract_of_error hpos hle (measure_of_no_count h hcount), fun h cells hcount => ?_⟩⟩
  have hmeasure : measure s.rctGrid = .ok (scaleOf (radii s.rctGrid), cells) := measure_of_count h hcount
  obtain ⟨hone, hmax⟩ := cellCount_bounds hcount
  refine ⟨hone, hmax, fun hdst => execExtract_of_not_fits hpos hle hmeasure hdst, fun hdst => ?_⟩
  have hlen := cellSymbols_length s.rctGrid Config.unitDimThreshold Config.gapDimThreshold (scaleOf (radii s.rctGrid)) cells
  have hex := execExtract_of_fits hpos hle hmeasure hdst
  dsimp only at hex
  rw [← s.setWidth_symByte_storeSym dst (hlen ▸ Nat.mul_pos hone hone)] at hex
  refine ⟨_, hex, fun col row hcol hrow => ?_, fun a ha => ?_, rfl⟩
  · exact s.symByte_storeSym_of_getElem? dst (cellSymbols_getElem? _ _ _ _ hcol hrow)
  · exact s.symByte_storeSym_gfByte_outside dst _ (by rwa [hlen])

end Sys2Proof.Machine
end

section
/-! The frame of the image commands (R272 to R350): each is its checks in order, then stores from cell 0 of matrices that have as many
cells as its dimensions say. -/

open Sys2Proof.Certificates

namespace Sys2Proof.Machine

/-- What the image command `i` leaves as it was on its way from `s` to `t`: of each memory and CSR all but what its rule writes. -/
structure ImageWrite (i : Instr) (s t : State) : Prop where
  registers : t.x = s.x ∧ t.p = s.p ∧ t.gen = s.gen ∧ sameSym s t
  codes : t.codeSize = s.codeSize ∧ t.codeVer = s.codeVer ∧ t.par = s.par ∧ t.plen = s.plen ∧ t.ncorr = s.ncorr
  dims : (∀ xs1, i ≠ .render xs1) → t.imgW = s.imgW ∧ t.imgH = s.imgH
  side : i ≠ .xform → t.rectN = s.rectN ∧ t.m = s.m ∧ t.nans = s.nans
  patterns : i ≠ .locf → i ≠ .loca → i ≠ .locate → t.pl = s.pl
  fourth : i = .locf → t.pl.br = s.pl.br ∧ t.pl.asize = s.pl.asize
  finders : i = .loca → t.pl = { s.pl with br := t.pl.br, asize := t.pl.asize }
  img : ∀ k, (∀ xs1, i = .render xs1 → 4 * (s.res.toNat * s.res.toNat) ≤ k) → t.imgByte k = s.imgByte k
  lum : ∀ k, (i = .luma ∨ i = .binarize → s.width * s.height ≤ k) → t.lumByte k = s.lumByte k
  thr : ∀ k, (i = .thresh ∨ i = .binarize → (s.width - 79) * (s.height - 79) ≤ k) → t.thrCell k = s.thrCell k
  bit : ∀ k, (i = .binz ∨ i = .binarize → s.width * s.height ≤ k) →
    (∀ xs1, i = .render xs1 → s.res.toNat * s.res.toNat ≤ k) → t.bitCell k = s.bitCell k
  rct : ∀ k, (i = .xform → ∀ n, sideOf (rectSide s.pl) = .ok n → n * n ≤ k) → t.rctCell k = s.rctCell k

namespace ImageWrite

variable {i : Instr} {s t : State}

theorem refl (i : Instr) (s : State) : ImageWrite i s s where
  registers := ⟨rfl, rfl, rfl, fun _ => rfl⟩
  codes := ⟨rfl, rfl, rfl, rfl, rfl⟩
  dims := fun _ => ⟨rfl, rfl⟩
  side := fun _ => ⟨rfl, rfl, rfl⟩
  patterns := fun _ _ _ => rfl
  fourth := fun _ => ⟨rfl, rfl⟩
  finders := fun _ => rfl
  img := fun _ _ => rfl
  lum := fun _ _ => rfl
  thr := fun _ _ => rfl
  bit := fun _ _ _ => rfl
  rct := fun _ _ => rfl

/-- A fault changes the record alone (R390). -/
theorem faulted (i : Instr) (s : State) (c : ErrCode) (n : Nat) : ImageWrite i s (s.faulted c n) := { refl i s with }

theorem completed (h : ImageWrite i s t) : ImageWrite i s t.completed := { h with }

/-- A store from cell 0 of `LUM`, of no more cells than the image has. -/
theorem storeLum (h : ImageWrite i s t) (hi : i = .luma ∨ i = .binarize) {vs : List Byte}
    (hlen : vs.length = s.width * s.height) : ImageWrite i s (t.storeLum 0 vs) :=
  { h with
    lum := fun k hk => (memRead_memWrite_zero_of_le _ t.lum (hlen.trans_le (hk hi))).trans (h.lum k hk) }

theorem storeThr (h : ImageWrite i s t) (hi : i = .thresh ∨ i = .binarize) {vs : List F64}
    (hlen : vs.length = (s.width - 79) * (s.height - 79)) : ImageWrite i s (t.storeThr 0 vs) :=
  { h with
    thr := fun k hk => (memRead_memWrite_zero_of_le _ t.thr (hlen.trans_le (hk hi))).trans (h.thr k hk) }

theorem storeBit (h : ImageWrite i s t) (hi : i = .binz ∨ i = .binarize) {vs : List Bool}
    (hlen : vs.length = s.width * s.height) : ImageWrite i s (t.storeBit 0 vs) :=
  { h with
    bit := fun k hk hr => (memRead_memWrite_zero_of_le _ t.bit (hlen.trans_le (hk hi))).trans (h.bit k hk hr) }

end ImageWrite

/-- The result of the image command `i` is a next state, and keeps its frame. -/
def ImageEnds (i : Instr) (s : State) (r : Result) : Prop := ∃ t, r = .next t ∧ ImageWrite i s t

namespace ImageEnds

variable {i : Instr} {s : State}

theorem raise (c : ErrCode) (n : Nat) : ImageEnds i s (s.raise c n) := ⟨_, rfl, .faulted i s c n⟩

theorem complete {t : State} (h : ImageWrite i s t) : ImageEnds i s t.complete := ⟨_, rfl, h.completed⟩

/-- A check that raises a fault comes before the rest of the command. -/
theorem guard {p : Prop} [Decidable p] {c : ErrCode} {n : Nat} {r : Result} (h : ImageEnds i s r) :
    ImageEnds i s (if p then s.raise c n else r) := by
  split
  · exact raise c n
  · exact h

end ImageEnds

/-! The commands. -/

section
variable (s : State)

theorem withLuma_imageWrite {i : Instr} (hi : i = .luma ∨ i = .binarize) : ImageWrite i s s.withLuma :=
  (ImageWrite.refl i s).storeLum hi (lumaMatrix_length s)

theorem withThresh_imageWrite {i : Instr} {t : State} (h : ImageWrite i s t) (hi : i = .thresh ∨ i = .binarize)
    (hw : t.width = s.width) (hh : t.height = s.height) : ImageWrite i s t.withThresh :=
  h.storeThr hi (by rw [threshTable_length, hw, hh, Nat.mul_comm])

theorem withBinz_imageWrite {i : Instr} {t : State} (h : ImageWrite i s t) (hi : i = .binz ∨ i = .binarize)
    (hw : t.width = s.width) (hh : t.height = s.height) : ImageWrite i s t.withBinz :=
  h.storeBit hi (by rw [binBits_length, hw, hh, Nat.mul_comm])

theorem execLuma_imageEnds : ImageEnds .luma s (execLuma s) := by
  unfold execLuma
  split
  · exact .raise ..
  · exact .complete (withLuma_imageWrite s (.inl rfl))

theorem execThresh_imageEnds : ImageEnds .thresh s (execThresh s) := by
  unfold execThresh
  split
  · exact .raise ..
  · exact .complete (withThresh_imageWrite s (.refl _ s) (.inl rfl) rfl rfl)

theorem execBinz_imageEnds : ImageEnds .binz s (execBinz s) := by
  unfold execBinz
  split
  · exact .raise ..
  · exact .complete (withBinz_imageWrite s (.refl _ s) (.inl rfl) rfl rfl)

theorem execBinarize_imageEnds : ImageEnds .binarize s (execBinarize s) := by
  unfold execBinarize
  split
  · exact .raise ..
  · have hluma := withLuma_imageWrite s (i := .binarize) (.inr rfl)
    have hthresh := withThresh_imageWrite s hluma (.inr rfl) rfl rfl
    exact .complete (withBinz_imageWrite s hthresh (.inr rfl) rfl rfl)

theorem execLocf_imageEnds : ImageEnds .locf s (execLocf s) := by
  unfold execLocf
  split
  · exact .raise ..
  · split
    · exact .raise ..
    case h_2 pl hfound =>
      obtain ⟨_, _, _, -, -, -, rfl⟩ := findFinders_ok hfound
      exact .complete { ImageWrite.refl .locf s with
        patterns := fun hi => absurd rfl hi, fourth := fun _ => ⟨rfl, rfl⟩, finders := fun hi => (nomatch hi) }

theorem execLoca_imageEnds : ImageEnds .loca s (execLoca s) := by
  unfold execLoca
  split
  · exact .raise ..
  · exact .guard (.complete { ImageWrite.refl .loca s with
      patterns := fun _ hi => absurd rfl hi, fourth := fun hi => (nomatch hi), finders := fun _ => findAlignment_eq _ _ })

theorem execLocate_imageEnds : ImageEnds .locate s (execLocate s) := by
  unfold execLocate
  split
  · exact .raise ..
  · split
    · exact .raise ..
    · exact .guard (.complete { ImageWrite.refl .locate s with
        patterns := fun _ _ hi => absurd rfl hi, fourth := fun hi => (nomatch hi), finders := fun hi => (nomatch hi) })

theorem execXform_imageEnds : ImageEnds .xform s (execXform s) := by
  unfold execXform
  split
  · exact .raise ..
  · refine .guard ?_
    split
    · exact .raise ..
    case h_2 n hside =>
      exact .complete { ImageWrite.refl .xform s with
        side := fun hi => absurd rfl hi
        rct := fun k hk => memRead_memWrite_zero_of_le _ s.rct ((rectBits_length ..).trans_le (hk rfl n hside)) }

theorem execRender_imageEnds (xs1 : XReg) : ImageEnds (.render xs1) s (execRender xs1 s) := by
  refine .guard (.guard (.guard ?_))
  split
  · exact .raise ..
  · refine .guard (.complete { ImageWrite.refl (.render xs1) s with
      dims := fun hi => absurd rfl (hi xs1)
      img := fun k hk => memRead_memWrite_zero_of_le _ s.img (Eq.trans_le ?_ (hk xs1 rfl))
      bit := fun k _ hk => memRead_memWrite_zero_of_le _ s.bit ((renderBits_length ..).trans_le (hk xs1 rfl)) })
    rw [rgba_length, renderBits_length]

end

theorem exec_imageEnds (s : State) {i : Instr}
    (h : i ∈ [.luma, .thresh, .binz, .binarize, .locf, .loca, .locate, .xform] ∨ ∃ xs1, i = .render xs1) :
    ImageEnds i s (exec i s) := by
  simp only [List.mem_cons, List.not_mem_nil, or_false] at h
  rcases h with (rfl | rfl | rfl | rfl | rfl | rfl | rfl | rfl) | ⟨xs1, rfl⟩
  · exact execLuma_imageEnds s
  · exact execThresh_imageEnds s
  · exact execBinz_imageEnds s
  · exact execBinarize_imageEnds s
  · exact execLocf_imageEnds s
  · exact execLoca_imageEnds s
  · exact execLocate_imageEnds s
  · exact execXform_imageEnds s
  · exact execRender_imageEnds s xs1

/-- Settles O25: what the stores leave is `exec_imageEnds`, what every command leaves is `commandEnds` (O8). -/
theorem imageFrame : Obligations.ImageFrame := by
  unfold Obligations.ImageFrame
  intro i s t hi hex
  have hhalt : i ≠ .halt := by
    rintro rfl
    simp at hi
  obtain ⟨hfixed, hend⟩ := exec_fixed_endsAs hhalt hex
  obtain ⟨u, hu, hwrite⟩ := exec_imageEnds s hi
  cases hex.symm.trans hu
  obtain ⟨hx, hp, hgen, hsym⟩ := hwrite.registers
  refine ⟨hx, hp, hgen, hfixed, hsym, hend, fun hr => ⟨fun k => ?_, hwrite.dims hr⟩, fun h1 h2 k => ?_, fun h1 h2 k => ?_,
    fun h1 h2 hr k => ?_, fun hxf => ⟨fun k => ?_, hwrite.side hxf⟩, hwrite.patterns, hwrite.fourth, hwrite.finders, ?_⟩
  · exact hwrite.img k fun xs1 h => absurd h (hr xs1)
  · exact hwrite.lum k fun h => absurd h (not_or.2 ⟨h1, h2⟩)
  · exact hwrite.thr k fun h => absurd h (not_or.2 ⟨h1, h2⟩)
  · exact hwrite.bit k (fun h => absurd h (not_or.2 ⟨h1, h2⟩)) fun xs1 h => absurd h (hr xs1)
  · exact hwrite.rct k fun h => absurd h hxf
  obtain ⟨hsize, hver, hpar, hplen, hncorr⟩ := hwrite.codes
  refine ⟨hsize, hver, hpar, hplen, hncorr, fun k hk => hwrite.lum k fun _ => hk, fun k hk => hwrite.thr k fun _ => hk,
    fun hr k hk => ?_, fun ⟨xs1, hr⟩ k hk => ?_, fun _ k hk => hwrite.img k fun _ _ => hk, fun n hn k hk => ?_⟩
  · exact hwrite.bit k (fun _ => hk) fun xs1 h => absurd h (hr xs1)
  · subst hr
    exact hwrite.bit k (fun h => absurd h (by simp)) fun _ _ => hk
  · refine hwrite.rct k fun _ m hm => ?_
    cases hn.symm.trans hm
    exact hk

end Sys2Proof.Machine
end
